-- ==== Sys2Proof/Word.lean ====
section
/-! DEFINITION. The plain words of the model: bytes, data units, part times, and the index types of the part's
fixed collections (TABLE 3 of spec/00_scope.md), with reading and replacing one member of a fixed collection. -/

namespace Sys2Proof

/-- One byte of a management frame. -/
abbrev Byte := BitVec 8

/-- One beat of link data, 16 bytes (R174). -/
abbrev DataUnit := BitVec 128

/-- A part time or a duration: a count of microticks modulo 2^32 (R35). -/
abbrev Time := BitVec 32

/-- A stream index, 0..15. -/
abbrev StreamIx := Fin 16

/-- A tracking slot index, 0..63. -/
abbrev SlotIx := Fin 64

/-- An event counter index, 0..7. -/
abbrev CounterIx := Fin 8

/-- A phase channel index, 0..3. -/
abbrev ChannelIx := Fin 4

/-- A fixed collection with member `i` replaced. -/
def setAt {α : Type} {n : Nat} (v : Vector α n) (i : Fin n) (x : α) : Vector α n :=
  v.set i.val x i.isLt

/-- A fixed collection with every member rewritten in place. -/
def mapAll {α β : Type} {n : Nat} (f : α → β) (v : Vector α n) : Vector β n :=
  Vector.ofFn fun i => f v[i]

/-- How many members of a fixed collection satisfy a test. -/
def countWhere {α : Type} {n : Nat} (p : α → Bool) (v : Vector α n) : Nat :=
  v.toList.countP p

end Sys2Proof
end

