-- ==== Sys2Proof/Config.lean ====
section
/-! DEFINITION. The capacities of TABLE 3 (spec/00_scope.md), and the values the manual leaves open. -/

namespace Sys2Proof.Config

/-- The pending list holds at most 32 entries (TABLE 3, R68). -/
def listCapacity : Nat := 32

/-- The data pool holds 256 beats (TABLE 3, R70). -/
def poolCapacity : Nat := 256

/-- The capture queue holds at most 4 records (R149). -/
def captureCapacity : Nat := 4

/-- FREE VALUE (notes/assumptions/3.md). Bit `k` of what MISO carries in a frame in progress once RST_N has been
released within it: the manual fixes MISO while RST_N is asserted (R163) and for a frame that begins while it is
released (R168), and states nothing for the rest of such a frame. The first argument is a fresh number for each such
frame. -/
opaque freeMisoBit : Nat → Nat → Bool

/-- FREE VALUE (notes/assumptions/13.md). A command that falls between a COMPLETE or MEMERR notice and its
sample reaches the accounting unit before the sample: R147 allows either order. The argument is a fresh number for
each such choice. -/
opaque commandFirst : Nat → Bool

end Sys2Proof.Config
end

