-- ==== Sys2Proof/Syntax.lean ====
section
/-! DEFINITION. The commands the part takes from outside: one constructor for each row of spec/opcode_table.json.
A link event carries the message that moves on the link as words (R174); a management command carries the raw
argument fields of its frame at the widths of TABLE 86 (R175), unjudged. -/

namespace Sys2Proof

/-- Whether a request reads or writes memory (R2). -/
inductive Kind where
  | read
  | write
deriving DecidableEq, Repr

/-- A message on a link channel: its header word and the data units that follow it (R174). -/
structure LinkMessage where
  header : BitVec 64
  data : List DataUnit
deriving DecidableEq, Repr

/-- The argument fields of STREAM WRITE, in the order of TABLE 86. -/
structure StreamWriteArgs where
  index : Byte
  sourceLow : Byte
  sourceHigh : Byte
  pageBase : BitVec 32
  pageLimit : BitVec 32
  kinds : Byte
  rank : Byte
  holdLimit : Byte
  policy : Byte
  budgetEnable : Byte
  allotment : BitVec 32
  ceiling : BitVec 32
  phaseBinding : Byte
deriving DecidableEq, Repr

/-- One phase channel's argument fields in WINDOW SET (TABLE 86). -/
structure ChannelArgs where
  offset : BitVec 16
  width : BitVec 16
deriving DecidableEq, Repr

/-- The argument fields of WINDOW SET (TABLE 86). -/
structure WindowSetArgs where
  length : BitVec 16
  channels : Vector ChannelArgs 4
deriving DecidableEq, Repr

/-- The argument fields of COUNTER SET (TABLE 86). -/
structure CounterSetArgs where
  index : Byte
  event : Byte
  filter : Byte
  threshold : BitVec 24
  flags : Byte
deriving DecidableEq, Repr

/-- The argument fields of HISTOGRAM SET (TABLE 86). -/
structure HistogramSetArgs where
  latencyKind : Byte
  filter : Byte
  flags : Byte
  boundaries : Vector (BitVec 24) 7
deriving DecidableEq, Repr

/-- The commands of the part: spec/opcode_table.json, row by row. -/
inductive Instr where
  /-- ARRIVAL (R6): a request is offered at the north port. -/
  | arrival (m : LinkMessage)
  /-- ISSUE (R90): the south link is ready to take a request. -/
  | issue
  /-- SOUTH_RESPONSE_INTAKE (R95): a response is offered at the south port. -/
  | southResponseIntake (m : LinkMessage)
  /-- FORWARDING (R98): the north link takes the forwarded delivery candidate. -/
  | forwarding
  /-- TIMEOUT_REPLY (R117): the north link takes the TIMEOUT reply at the head of the reply order list. -/
  | timeoutReply
  /-- OWED_REPLY (R80): the north link takes the REFUSED, MALFORMED or ABORTED reply at the head of that list. -/
  | owedReply
  /-- MICROTICK (R33): a whole interval of part-clock periods passes. -/
  | microtick
  /-- EXPIRY (R93): the slots whose deadline part time has reached expire. -/
  | expiry
  /-- WINDOW_START_EVENT (R38): the window start brought by the position. -/
  | windowStartEvent
  /-- PHASE_OPEN (R41) of one channel. -/
  | phaseOpen (channel : ChannelIx)
  /-- PHASE_CLOSE (R41) of one channel. -/
  | phaseClose (channel : ChannelIx)
  /-- NLRST_N_ASSERT (R14). -/
  | nlrstAssert
  /-- NLRST_N_RELEASE (R14). -/
  | nlrstRelease
  /-- RST_N_ASSERT (R15). -/
  | rstAssert
  /-- RST_N_RELEASE (R15). -/
  | rstRelease
  /-- FRAME_IGNORED (R166): a frame with no completed byte ends. Its bits, at most seven, are discarded (R163). -/
  | frameIgnored
  /-- FRAME_ERROR (R167): a frame of these sampled bits ends, judged on a line 3 to 6 of TABLE 80. -/
  | frameError (bits : List Bool)
  /-- NOP (R165): a frame of these sampled bits, whose first byte is 0x00, ends. -/
  | nop (bits : List Bool)
  | readStatus
  | softReset
  | tickSet (prescaler : BitVec 16)
  | streamWrite (args : StreamWriteArgs)
  | streamRead (index : Byte)
  | streamDelete (index : Byte)
  | streamPause (index : Byte)
  | streamResume (index : Byte)
  | streamPurge (index : Byte)
  | windowSet (args : WindowSetArgs)
  | windowStart
  | windowStop
  | windowRead
  | timeoutSet (t : BitVec 24)
  | slotRead (index : Byte)
  | reclaim (index : Byte)
  | counterSet (args : CounterSetArgs)
  | counterWrite (index : Byte) (value : BitVec 40)
  | counterRead (index : Byte)
  | freeze
  | unfreeze
  | overflowClear (mask : Byte)
  | histogramSet (args : HistogramSetArgs)
  | histogramRead (part : Byte)
  | histogramClear
  | captureSet (period : Byte) (options : Byte)
  | captureNow
  | captureRead (part : Byte)
  | captureRelease
  | alertRead
  | alertAck (causes : Byte)
  | alertMask (causes : Byte)
  /-- SEL_N_FALLING_EDGE (R163): a frame begins. -/
  | selFallingEdge
deriving DecidableEq, Repr

end Sys2Proof
end

