-- ==== Sys2Proof/Decode.lean ====
section
/-! DEFINITION. The layouts at the part's edges: byte order, CRC-8 (R178), the command frames of TABLE 86 with their
frame-end judgement (TABLE 80, R166) and their encoder, the link header words of TABLE 85 (R174), and the reading of
an opcode-table word (no row of this block's table gives bits). -/

namespace Sys2Proof

/-! ### Byte order -/

/-- `n` bytes of a number, least significant byte first (R177). -/
def leBytes (n v : Nat) : List Byte :=
  match n with
  | 0 => []
  | k + 1 => BitVec.ofNat 8 v :: leBytes k (v / 256)

/-- The number that bytes sent least significant first stand for (R176). -/
def leNat : List Byte → Nat
  | [] => 0
  | b :: bs => b.toNat + 256 * leNat bs

/-- The argument field of `len` bytes that begins at byte `at_` of a frame's arguments, as a `w`-bit word (R176). -/
def argField (w at_ len : Nat) (args : List Byte) : BitVec w :=
  BitVec.ofNat w (leNat ((args.drop at_).take len))

/-- A set of flags as one byte, flag 0 in bit 0 (TABLE 87). The bits beyond the flags are 0, also in the response bytes
for which TABLES 87 and 88 name fewer than eight and the manual states no value (DESIGN CHOICE:
notes/assumptions/16.md). -/
def packByte (flags : List Bool) : Byte :=
  BitVec.ofNat 8 (flags.foldr (fun b acc => b.toNat + 2 * acc) 0)

/-! ### The CRC -/

/-- One step of the CRC register: shift left, and XOR 0x07 in when the dropped bit was 1 (R178). -/
def crcShift (reg : Byte) : Byte :=
  if reg.msb then (reg <<< 1) ^^^ 0x07 else reg <<< 1

/-- One byte entered into the CRC register: an XOR and eight steps (R178). -/
def crcByte (reg b : Byte) : Byte :=
  crcShift (crcShift (crcShift (crcShift (crcShift (crcShift (crcShift (crcShift (reg ^^^ b))))))))

/-- CRC-8 of a run of bytes, initial value 0xFF (R164, R178). -/
def crc8 (bytes : List Byte) : Byte := bytes.foldl crcByte 0xFF

/-! ### Command frames -/

/-- The number of argument bytes of a command code; none for a code outside TABLE 86, and for NOP, which has no
length (R165, R175). -/
def argBytes (code : Byte) : Option Nat :=
  match code.toNat with
  | 0x01 => some 0 | 0x02 => some 0 | 0x03 => some 2
  | 0x10 => some 25 | 0x11 => some 1 | 0x12 => some 1 | 0x13 => some 1 | 0x14 => some 1 | 0x15 => some 1
  | 0x20 => some 18 | 0x21 => some 0 | 0x22 => some 0 | 0x23 => some 0
  | 0x30 => some 3 | 0x31 => some 1 | 0x32 => some 1
  | 0x40 => some 7 | 0x41 => some 6 | 0x42 => some 1 | 0x43 => some 0 | 0x44 => some 0 | 0x45 => some 1
  | 0x50 => some 24 | 0x51 => some 1 | 0x52 => some 0
  | 0x60 => some 2 | 0x61 => some 0 | 0x62 => some 1 | 0x63 => some 0
  | 0x70 => some 0 | 0x71 => some 1 | 0x72 => some 1
  | _ => none

/-- The argument fields of STREAM WRITE, read from its 25 argument bytes (TABLE 86). -/
def decodeStreamWrite (args : List Byte) : StreamWriteArgs :=
  { index := argField 8 0 1 args
    sourceLow := argField 8 1 1 args
    sourceHigh := argField 8 2 1 args
    pageBase := argField 32 3 4 args
    pageLimit := argField 32 7 4 args
    kinds := argField 8 11 1 args
    rank := argField 8 12 1 args
    holdLimit := argField 8 13 1 args
    policy := argField 8 14 1 args
    budgetEnable := argField 8 15 1 args
    allotment := argField 32 16 4 args
    ceiling := argField 32 20 4 args
    phaseBinding := argField 8 24 1 args }

/-- The argument fields of WINDOW SET, read from its 18 argument bytes (TABLE 86). -/
def decodeWindowSet (args : List Byte) : WindowSetArgs :=
  { length := argField 16 0 2 args
    channels := Vector.ofFn fun i : ChannelIx =>
      { offset := argField 16 (2 + 4 * i.val) 2 args, width := argField 16 (4 + 4 * i.val) 2 args } }

/-- The argument fields of COUNTER SET, read from its 7 argument bytes (TABLE 86). -/
def decodeCounterSet (args : List Byte) : CounterSetArgs :=
  { index := argField 8 0 1 args, event := argField 8 1 1 args, filter := argField 8 2 1 args
    threshold := argField 24 3 3 args, flags := argField 8 6 1 args }

/-- The argument fields of HISTOGRAM SET, read from its 24 argument bytes (TABLE 86). -/
def decodeHistogramSet (args : List Byte) : HistogramSetArgs :=
  { latencyKind := argField 8 0 1 args, filter := argField 8 1 1 args, flags := argField 8 2 1 args
    boundaries := Vector.ofFn fun i : Fin 7 => argField 24 (3 + 3 * i.val) 3 args }

/-- The command of a code and its argument bytes (TABLE 86); none for a code that is not in the table. -/
def decodeCommand (code : Byte) (args : List Byte) : Option Instr :=
  match code.toNat with
  | 0x01 => some .readStatus
  | 0x02 => some .softReset
  | 0x03 => some (.tickSet (argField 16 0 2 args))
  | 0x10 => some (.streamWrite (decodeStreamWrite args))
  | 0x11 => some (.streamRead (argField 8 0 1 args))
  | 0x12 => some (.streamDelete (argField 8 0 1 args))
  | 0x13 => some (.streamPause (argField 8 0 1 args))
  | 0x14 => some (.streamResume (argField 8 0 1 args))
  | 0x15 => some (.streamPurge (argField 8 0 1 args))
  | 0x20 => some (.windowSet (decodeWindowSet args))
  | 0x21 => some .windowStart
  | 0x22 => some .windowStop
  | 0x23 => some .windowRead
  | 0x30 => some (.timeoutSet (argField 24 0 3 args))
  | 0x31 => some (.slotRead (argField 8 0 1 args))
  | 0x32 => some (.reclaim (argField 8 0 1 args))
  | 0x40 => some (.counterSet (decodeCounterSet args))
  | 0x41 => some (.counterWrite (argField 8 0 1 args) (argField 40 1 5 args))
  | 0x42 => some (.counterRead (argField 8 0 1 args))
  | 0x43 => some .freeze
  | 0x44 => some .unfreeze
  | 0x45 => some (.overflowClear (argField 8 0 1 args))
  | 0x50 => some (.histogramSet (decodeHistogramSet args))
  | 0x51 => some (.histogramRead (argField 8 0 1 args))
  | 0x52 => some .histogramClear
  | 0x60 => some (.captureSet (argField 8 0 1 args) (argField 8 1 1 args))
  | 0x61 => some .captureNow
  | 0x62 => some (.captureRead (argField 8 0 1 args))
  | 0x63 => some .captureRelease
  | 0x70 => some .alertRead
  | 0x71 => some (.alertAck (argField 8 0 1 args))
  | 0x72 => some (.alertMask (argField 8 0 1 args))
  | _ => none

/-- What the port keeps of the frame it is receiving (R163): the bits of the byte in progress, at most seven, the
first sampled first; the completed bytes, in the order received, up to the full length that the first byte's code
requires; and whether more bytes came beyond that. -/
structure RxBuffer where
  bits : List Bool
  bytes : List Byte
  more : Bool
deriving DecidableEq, Repr

/-- The buffer at the falling edge of SEL_N: no bytes held (R163). -/
def RxBuffer.empty : RxBuffer := { bits := [], bytes := [], more := false }

/-- The full length of a frame by its code byte: code, arguments and CRC (R175). A code with no length, NOP or an
unknown one, is judged on its code byte alone (TABLE 80, lines 2 and 3). -/
def frameLength (code : Byte) : Nat :=
  match argBytes code with
  | some a => 2 + a
  | none => 1

/-- One more completed byte (R163). -/
def RxBuffer.push (r : RxBuffer) (b : Byte) : RxBuffer :=
  match r.bytes with
  | [] => { r with bytes := [b] }
  | code :: _ => if r.bytes.length < frameLength code then { r with bytes := r.bytes ++ [b] } else { r with more := true }

/-- The number that sampled bits stand for, the first sampled being the most significant (R163). -/
def bitsNat (bits : List Bool) : Nat := bits.foldl (fun n b => 2 * n + b.toNat) 0

/-- MOSI is sampled at a rising edge of SCLK (R163): each eighth bit completes one byte. -/
def RxBuffer.sample (r : RxBuffer) (b : Bool) : RxBuffer :=
  if r.bits.length < 7 then { r with bits := r.bits ++ [b] }
  else ({ r with bits := [] } : RxBuffer).push (BitVec.ofNat 8 (bitsNat (r.bits ++ [b])))

/-- The bits of a byte in the order in which they travel, most significant bit first (R163). -/
def bitsOf (b : Byte) : List Bool := (List.range 8).map fun k => b.getLsbD (7 - k)

/-- The frame errors of lines 3 to 6 of TABLE 80. -/
inductive FrameError where
  | unknownCmd
  | shortFrame
  | longFrame
  | crcError
deriving DecidableEq, Repr

/-- The outcome of the frame-end judgement (TABLE 80). -/
inductive Judgement where
  | ignored
  | nop
  | error (code : Byte) (e : FrameError)
  | command (c : Instr)
deriving DecidableEq, Repr

/-- The frame-end judgement of TABLE 80, line by line, on what the port has kept of the frame (R166). -/
def RxBuffer.judge (r : RxBuffer) : Judgement :=
  match r.bytes with
  | [] => .ignored
  | code :: rest =>
    if code = 0x00 then .nop
    else
      match argBytes code with
      | none => .error code .unknownCmd
      | some a =>
        if r.bytes.length < 2 + a then .error code .shortFrame
        else if r.more then .error code .longFrame
        else if rest.drop a ≠ [crc8 (code :: rest.take a)] then .error code .crcError
        else
          match decodeCommand code (rest.take a) with
          | some c => .command c
          | none => .error code .unknownCmd

/-- The judgement of a whole frame: its completed bytes are received one by one and judged at its end (R163, R166). -/
def judgeFrame (bytes : List Byte) : Judgement :=
  (bytes.foldl RxBuffer.push RxBuffer.empty).judge

/-- The judgement of a whole frame on the bits that were sampled in it: those of a last byte left incomplete are
discarded (R163, R166). -/
def judgeBits (bits : List Bool) : Judgement :=
  (bits.foldl RxBuffer.sample RxBuffer.empty).judge

/-- The argument bytes of STREAM WRITE (TABLE 86). -/
def encodeStreamWrite (a : StreamWriteArgs) : List Byte :=
  [a.index, a.sourceLow, a.sourceHigh] ++ leBytes 4 a.pageBase.toNat ++ leBytes 4 a.pageLimit.toNat
    ++ [a.kinds, a.rank, a.holdLimit, a.policy, a.budgetEnable]
    ++ leBytes 4 a.allotment.toNat ++ leBytes 4 a.ceiling.toNat ++ [a.phaseBinding]

/-- The argument bytes of WINDOW SET (TABLE 86). -/
def encodeWindowSet (a : WindowSetArgs) : List Byte :=
  leBytes 2 a.length.toNat
    ++ a.channels.toList.flatMap fun c => leBytes 2 c.offset.toNat ++ leBytes 2 c.width.toNat

/-- The argument bytes of HISTOGRAM SET (TABLE 86). -/
def encodeHistogramSet (a : HistogramSetArgs) : List Byte :=
  [a.latencyKind, a.filter, a.flags] ++ a.boundaries.toList.flatMap fun b => leBytes 3 b.toNat

/-- The code byte and argument bytes of a management command (TABLE 86); none for an event that is no command frame,
and for NOP, whose frame carries no CRC. -/
def commandBytes : Instr → Option (List Byte)
  | .readStatus => some [0x01]
  | .softReset => some [0x02]
  | .tickSet p => some (0x03 :: leBytes 2 p.toNat)
  | .streamWrite a => some (0x10 :: encodeStreamWrite a)
  | .streamRead i => some [0x11, i]
  | .streamDelete i => some [0x12, i]
  | .streamPause i => some [0x13, i]
  | .streamResume i => some [0x14, i]
  | .streamPurge i => some [0x15, i]
  | .windowSet a => some (0x20 :: encodeWindowSet a)
  | .windowStart => some [0x21]
  | .windowStop => some [0x22]
  | .windowRead => some [0x23]
  | .timeoutSet t => some (0x30 :: leBytes 3 t.toNat)
  | .slotRead i => some [0x31, i]
  | .reclaim i => some [0x32, i]
  | .counterSet a => some ([0x40, a.index, a.event, a.filter] ++ leBytes 3 a.threshold.toNat ++ [a.flags])
  | .counterWrite i v => some ([0x41, i] ++ leBytes 5 v.toNat)
  | .counterRead i => some [0x42, i]
  | .freeze => some [0x43]
  | .unfreeze => some [0x44]
  | .overflowClear m => some [0x45, m]
  | .histogramSet a => some (0x50 :: encodeHistogramSet a)
  | .histogramRead p => some [0x51, p]
  | .histogramClear => some [0x52]
  | .captureSet k o => some [0x60, k, o]
  | .captureNow => some [0x61]
  | .captureRead p => some [0x62, p]
  | .captureRelease => some [0x63]
  | .alertRead => some [0x70]
  | .alertAck m => some [0x71, m]
  | .alertMask m => some [0x72, m]
  | .arrival _ | .issue | .southResponseIntake _ | .forwarding | .timeoutReply | .owedReply => none
  | .microtick | .expiry | .windowStartEvent | .phaseOpen _ | .phaseClose _ => none
  | .nlrstAssert | .nlrstRelease | .rstAssert | .rstRelease => none
  | .frameIgnored | .frameError _ | .nop _ | .selFallingEdge => none

/-- The whole command frame: code, arguments and CRC (R164). -/
def encodeFrame (c : Instr) : Option (List Byte) :=
  (commandBytes c).map fun bs => bs ++ [crc8 bs]

/-! ### Link messages -/

/-- The status of a south response (TABLE 10). -/
inductive SouthStatus where
  | ok
  | error
deriving DecidableEq, Repr

/-- The status of a north response (TABLE 11). -/
inductive NorthStatus where
  | ok
  | memerr
  | timeout
  | refused
  | malformed
  | aborted
deriving DecidableEq, Repr

/-- A request message (TABLE 8). -/
structure Request where
  kind : Kind
  source : BitVec 6
  tag : BitVec 8
  address : BitVec 40
  beats : BitVec 5
  data : List DataUnit
deriving DecidableEq, Repr

/-- A south response message (TABLE 10). -/
structure SouthResponse where
  source : BitVec 6
  tag : BitVec 8
  status : SouthStatus
  data : List DataUnit
deriving DecidableEq, Repr

/-- A north response message (TABLE 10). -/
structure NorthResponse where
  source : BitVec 6
  tag : BitVec 8
  status : NorthStatus
  data : List DataUnit
deriving DecidableEq, Repr

/-- The code of a request kind (TABLE 85, TABLE 87). -/
def Kind.code : Kind → Nat
  | .read => 0
  | .write => 1

/-- The code of a north status (TABLE 85). -/
def NorthStatus.code : NorthStatus → Nat
  | .ok => 0
  | .memerr => 1
  | .timeout => 2
  | .refused => 3
  | .malformed => 4
  | .aborted => 5

/-- A request as read from its message (TABLE 85); header bits that the table does not assign are ignored (R174). -/
def Request.ofMessage (m : LinkMessage) : Request :=
  { kind := if m.header.getLsbD 0 then .write else .read
    source := m.header.extractLsb' 1 6
    tag := m.header.extractLsb' 7 8
    beats := m.header.extractLsb' 15 5
    address := m.header.extractLsb' 20 40
    data := m.data }

/-- A request as the part sends it (TABLE 85); header bits that the table does not assign are sent as 0 (R174). -/
def Request.toMessage (r : Request) : LinkMessage :=
  { header := BitVec.ofNat 64 (r.kind.code + 2 ^ 1 * r.source.toNat + 2 ^ 7 * r.tag.toNat + 2 ^ 15 * r.beats.toNat
      + 2 ^ 20 * r.address.toNat)
    data := r.data }

/-- A south response as read from its message (TABLE 85). -/
def SouthResponse.ofMessage (m : LinkMessage) : SouthResponse :=
  { source := m.header.extractLsb' 0 6
    tag := m.header.extractLsb' 6 8
    status := if m.header.getLsbD 14 then .error else .ok
    data := m.data }

/-- A north response as the part sends it (TABLE 85). -/
def NorthResponse.toMessage (r : NorthResponse) : LinkMessage :=
  { header := BitVec.ofNat 64 (r.source.toNat + 2 ^ 6 * r.tag.toNat + 2 ^ 14 * r.status.code)
    data := r.data }

/-- A south response as memory sends it (TABLE 85), for use in tests and statements. -/
def SouthResponse.toMessage (r : SouthResponse) : LinkMessage :=
  { header := BitVec.ofNat 64 (r.source.toNat + 2 ^ 6 * r.tag.toNat
      + 2 ^ 14 * (match r.status with | .ok => 0 | .error => 1))
    data := r.data }

/-- The command that an opcode-table word spells. No row of spec/opcode_table.json gives bits, so no word spells one.
-/
def decodeTableWord (_nbits _w : Nat) : Option Instr := none

end Sys2Proof
end

