-- ==== Sys2Proof/WellFormed.lean ====
section
/-! DEFINITION. The checks a term of Instr must pass to be a command of the table. The operands of every other row
range over all their values: a value out of range is judged by the command's owner (R170), not here. -/

namespace Sys2Proof

/-- FRAME_ERROR is the row of a frame that TABLE 80 judges on one of its lines 3 to 6 (R167). -/
def Judgement.isError : Judgement → Bool
  | .error _ _ => true
  | _ => false

/-- A command of the table: its operands describe an event of its row. -/
def Instr.wellFormed : Instr → Bool
  | .frameError bits => (judgeBits bits).isError
  | .nop bits => judgeBits bits == .nop
  | _ => true

end Sys2Proof
end

