-- ==== Sys2Proof/Machine/State.lean ====
section
/-! DEFINITION. The state of the part, block by block (TABLE 2 of spec/00_scope.md), the reasons a step can stop, and
the state right after reset. -/

namespace Sys2Proof.Machine

/-! ### Pending list (chapter 5) -/

/-- The status of an owed reply of a pending entry (R67). -/
inductive ReplyKind where
  | refused
  | malformed
  | aborted
deriving DecidableEq, Repr

/-- The state of a pending entry; the reply kind is present exactly in REPLY_OWED (R67). -/
inductive EntryState where
  | waiting
  | replyOwed (reply : ReplyKind)
deriving DecidableEq, Repr

/-- A pending entry (TABLE 39). -/
structure PendingEntry where
  /-- The model's own name for the entry, by which a reference names it (notes/assumptions/4.md). -/
  id : Nat
  state : EntryState
  stream : StreamIx
  source : BitVec 6
  northTag : BitVec 8
  kind : Kind
  address : BitVec 40
  beats : BitVec 5
  arrivalTime : Time
  /-- The write data of a WAITING WRITE, held in the data pool; empty in every other entry (R67, R70). -/
  data : List DataUnit
deriving DecidableEq, Repr

/-! ### North port (chapter 1) -/

/-- The state of the north port (TABLE 12), with the stalled arrival and the stream that the most recent attempt on it
found (R72), both present exactly while STALLED. -/
inductive NorthPort where
  | accepting
  | stalled (arrival : Request) (stream : StreamIx)
  | linkReset
deriving DecidableEq, Repr

/-! ### Stream table (chapters 2 and 4) -/

/-- What admission does at the hold limit or on a pool shortage (R23). -/
inductive Policy where
  | stall
  | refuse
deriving DecidableEq, Repr

/-- The kinds of request a stream matches: a subset of READ and WRITE (R16). -/
structure Kinds where
  read : Bool
  write : Bool
deriving DecidableEq, Repr

/-- The fields of the match part that classification reads, but for the valid flag (TABLE 17). -/
structure MatchFields where
  sourceLow : BitVec 6
  sourceHigh : BitVec 6
  pageBase : BitVec 28
  pageLimit : BitVec 28
  kinds : Kinds
deriving DecidableEq, Repr

/-- A regulation set (TABLE 31). -/
structure Regulation where
  budgetEnable : Bool
  allotment : Nat
  ceiling : Nat
  phaseBinding : Option ChannelIx
deriving DecidableEq, Repr

/-- An entry of the stream table: the match part (TABLE 17) and the regulation part (TABLE 31). -/
structure StreamEntry where
  valid : Bool
  fields : MatchFields
  rank : Fin 4
  holdLimit : Nat
  policy : Policy
  paused : Bool
  active : Regulation
  staged : Regulation
  balance : Int
deriving DecidableEq, Repr

/-! ### Tracking table (chapter 6) -/

/-- The request fields of a slot that is not FREE, with its deadline when T was greater than 0 (TABLE 48). -/
structure SlotRequest where
  stream : StreamIx
  source : BitVec 6
  northTag : BitVec 8
  kind : Kind
  beats : BitVec 5
  address : BitVec 40
  arrivalTime : Time
  issueTime : Time
  deadline : Option Time
deriving DecidableEq, Repr

/-- The states of a slot that is not FREE (R91). -/
inductive SlotStage where
  | issued
  | timedOut
  | orphaned
deriving DecidableEq, Repr

/-- What a slot holds beside its generation: nothing while FREE, the request fields otherwise (R89). -/
inductive SlotUse where
  | free
  | busy (stage : SlotStage) (req : SlotRequest)
deriving DecidableEq, Repr

/-- A tracking slot (TABLE 48). -/
structure Slot where
  generation : BitVec 2
  use : SlotUse
deriving DecidableEq, Repr

/-- The delivery candidate record (R96): the slot, whether the status carried north is OK (else MEMERR), and the data
units carried north. -/
structure Candidate where
  slot : SlotIx
  ok : Bool
  data : List DataUnit
deriving DecidableEq, Repr

/-! ### Reply merge (chapter 7) -/

/-- A reference of the reply order list (R108). -/
inductive Ref where
  | entry (id : Nat)
  | slot (i : SlotIx)
deriving DecidableEq, Repr

/-- The classes of the north response arbiter (R111). -/
inductive ReplyClass where
  | forwarded
  | synthesized
deriving DecidableEq, Repr

/-! ### Window generator (chapter 3) -/

/-- The settings of one phase channel (TABLE 24). -/
structure Channel where
  offset : Nat
  width : Nat
deriving DecidableEq, Repr

/-- A set of window settings, active or staged (TABLE 24). -/
structure WindowSettings where
  length : Nat
  channels : Vector Channel 4
deriving DecidableEq, Repr

/-- The window generator (TABLE 24). -/
structure WindowGen where
  prescaler : Nat
  /-- The length, in part-clock periods, of the microtick interval in progress, fixed when it began (R33, R34). -/
  interval : Nat
  /-- The model's own count of the part-clock periods of the whole intervals since the count began. -/
  partClocks : Nat
  partTime : Time
  running : Bool
  active : WindowSettings
  staged : WindowSettings
  position : Nat
  sequence : BitVec 32
  phaseOpen : Vector Bool 4
  /-- The position has reached the active length and the window start it brings has not been taken yet: the model's
  own mark between the two events of one microtick (notes/assumptions/5.md). -/
  startDue : Bool
deriving DecidableEq, Repr

/-! ### Accounting unit (chapters 8 and 9) -/

/-- The eighteen events of TABLE 61. -/
inductive Event where
  | arrive
  | refused
  | malformed
  | stall
  | issue
  | waitTime
  | exhausted
  | complete
  | memerr
  | timeout
  | late
  | stray
  | aborted
  | window
  | heldLevel
  | slotLevel
  | poolLevel
  | balanceLevel
deriving DecidableEq, Repr

/-- The test of a counter (TABLE 64). -/
inductive Test where
  | atLeast
  | below
deriving DecidableEq, Repr

/-- What a passing notice adds to a counter (TABLE 64). -/
inductive Accumulate where
  | count
  | sum
deriving DecidableEq, Repr

/-- The configuration of an event counter (TABLE 64). The filter is a stream, or none for ANY. -/
structure CounterConfig where
  enable : Bool
  event : Event
  filter : Option StreamIx
  threshold : Nat
  test : Test
  accumulate : Accumulate
  edge : Bool
  freezeOnOverflow : Bool
deriving DecidableEq, Repr

/-- An event counter (TABLE 64). -/
structure Counter where
  config : CounterConfig
  value : BitVec 40
  overflow : Bool
  edgeMemory : Bool
deriving DecidableEq, Repr

/-- What brought a freeze (R131). -/
inductive FreezeCause where
  | command
  | counter (i : CounterIx)
deriving DecidableEq, Repr

/-- The accounting state; the freeze cause is NONE exactly while COUNTING (R131). -/
inductive AccountingState where
  | counting
  | frozen (cause : FreezeCause)
deriving DecidableEq, Repr

/-- Which latency the histogram measures (R142). -/
inductive LatencyKind where
  | wait
  | memory
  | total
deriving DecidableEq, Repr

/-- The configuration of the histogram (TABLE 69): boundary `i` of the collection is b(i+1). -/
structure HistogramConfig where
  latencyKind : LatencyKind
  filter : Option StreamIx
  includeMemerr : Bool
  boundaries : Vector Nat 7
  keepAddress : Bool
deriving DecidableEq, Repr

/-- A bin of the histogram: its count and its saturation mark (R143). -/
structure Bin where
  count : BitVec 32
  saturated : Bool
deriving DecidableEq, Repr

/-- The worst-case record (TABLE 71). -/
structure WorstRecord where
  latency : Time
  stream : StreamIx
  source : BitVec 6
  northTag : BitVec 8
  kind : Kind
  beats : BitVec 5
  ok : Bool
  windowSequence : Option (BitVec 32)
  address : Option (BitVec 40)
deriving DecidableEq, Repr

/-- The histogram and the worst-case record (R139). -/
structure Histogram where
  config : HistogramConfig
  bins : Vector Bin 8
  worst : Option WorstRecord
deriving DecidableEq, Repr

/-- The sample record handed over at a forwarding (TABLE 58), with the window sequence number at the take, present
when the window generator was RUNNING then (R144). -/
structure SampleRecord where
  req : SlotRequest
  ok : Bool
  forwardingTime : Time
  windowSequence : Option (BitVec 32)
deriving DecidableEq, Repr

/-- The accounting unit: the eight counters, the accounting state and the histogram. -/
structure AccountingUnit where
  counters : Vector Counter 8
  state : AccountingState
  histogram : Histogram
  /-- The sample record of a take whose COMPLETE or MEMERR notice has been taken and which has not been taken itself:
  the command that comes next may fall between the two, and every other event finds the sample taken (R116, R147;
  notes/assumptions/13.md). -/
  sampleDue : Option SampleRecord
deriving DecidableEq, Repr

/-! ### Capture queue and alert unit (chapter 10) -/

/-- What triggered a capture attempt (TABLE 77). -/
inductive CaptureCause where
  | command
  | periodic
  | freeze
deriving DecidableEq, Repr

/-- A capture record (TABLE 77). -/
structure CaptureRecord where
  number : BitVec 16
  cause : CaptureCause
  windowSequence : Option (BitVec 32)
  partTime : Time
  missed : Nat
  accounting : AccountingState
  overflow : Vector Bool 8
  waitingTotal : Nat
  owedTotal : Nat
  poolInUse : Nat
  slotsNotFree : Nat
  values : Vector (BitVec 40) 8
  histogram : Option (Vector Bin 8)
  balances : Option (Vector Int 16)
deriving DecidableEq, Repr

/-- The capture options (R151). -/
structure CaptureOptions where
  includeHistogram : Bool
  includeBalances : Bool
  clearCounters : Bool
  clearHistogram : Bool
  captureOnFreeze : Bool
deriving DecidableEq, Repr

/-- The capture queue (R149), the oldest record first. -/
structure CaptureQueue where
  records : List CaptureRecord
  options : CaptureOptions
  period : Nat
  periodicCount : Nat
  number : BitVec 16
  missed : Nat
deriving DecidableEq, Repr

/-- The eight alert causes (TABLE 78). -/
inductive Cause where
  | freeze
  | capture
  | timeout
  | stray
  | memerr
  | linkReset
  | stall
  | frame
deriving DecidableEq, Repr

/-- The sticky causes that are pending (R159). CAPTURE, a level, is read from the capture queue and not stored. -/
structure StickyCauses where
  freeze : Bool
  timeout : Bool
  stray : Bool
  memerr : Bool
  linkReset : Bool
  stall : Bool
  frame : Bool
deriving DecidableEq, Repr

/-- The alert unit: the pending sticky causes, and the enabled set as ALERT MASK wrote it, one bit a cause (R159,
R161). -/
structure AlertUnit where
  sticky : StickyCauses
  enabled : Byte
deriving DecidableEq, Repr

/-! ### Management port (chapter 11) -/

/-- The status codes of TABLE 82. -/
inductive Status where
  | ok
  | fresh
  | busy
  | badArg
  | badIndex
  | state
  | empty
  | crcError
  | shortFrame
  | longFrame
  | unknownCmd
deriving DecidableEq, Repr

/-- The held response (TABLE 81); its count is the length of its data and its CRC is computed as it is sent. -/
structure HeldResponse where
  status : Status
  echo : Byte
  sequence : Byte
  data : List Byte
deriving DecidableEq, Repr

/-- The frame receive state (R163). -/
inductive RxState where
  | idle
  | receiving (buffer : RxBuffer)
deriving DecidableEq, Repr

/-- What MISO carries in the frame in progress: the bytes of the held response that stood at the falling edge of SEL_N
(R168), ones while RST_N is asserted (R163), or a free value once RST_N has been released within the frame
(notes/assumptions/3.md). -/
inductive MisoSource where
  | response (bytes : List Byte)
  | ones
  | unknown (n : Nat)
deriving DecidableEq, Repr

/-- The management port. -/
structure MgmtPort where
  /-- SEL_N is low: a frame is in progress on the wires. -/
  selected : Bool
  rx : RxState
  miso : MisoSource
  held : HeldResponse
  sequence : Byte
deriving DecidableEq, Repr

/-! ### The whole part -/

/-- The state of the part. -/
structure State where
  port : NorthPort
  streams : Vector StreamEntry 16
  /-- The pending list, the oldest entry first (R68). -/
  entries : List PendingEntry
  /-- The model's own: the name the next entry takes (notes/assumptions/4.md). -/
  nextId : Nat
  slots : Vector Slot 64
  /-- The global timeout T (R92). -/
  timeout : Nat
  candidate : Option Candidate
  /-- The reply order list, the oldest reference first (R108). -/
  replyOrder : List Ref
  lastServed : ReplyClass
  window : WindowGen
  accounting : AccountingUnit
  capture : CaptureQueue
  alert : AlertUnit
  mgmt : MgmtPort
  /-- RST_N is asserted (low). -/
  rst : Bool
  /-- NLRST_N is asserted (low). -/
  nlrst : Bool
  /-- The model's own: the messages the north link has taken from the part, in order (notes/assumptions/6.md). -/
  northSent : List LinkMessage
  /-- The model's own: the messages the south link has taken from the part, in order (notes/assumptions/6.md). -/
  southSent : List LinkMessage
  /-- The model's own: how many free values have been drawn (notes/assumptions/3.md). -/
  freeDrawn : Nat
  /-- The model's own: the commands that wait, first in, first out. -/
  pending : List Instr
deriving DecidableEq, Repr

/-- The reasons a command can stop the part. There is none: the manual gives every command, in every state, either its
effect or no effect, and nothing it says stops the part. -/
inductive Fault where
deriving DecidableEq, Repr

/-- The reasons the model can refuse a command. -/
inductive Refusal where
  /-- Raised by a refused arm of exec alone, for a row that has no meaning yet; safe. No arm is refused now. -/
  | notModelled (mnemonic : String)
deriving DecidableEq, Repr

/-! ### Reset values -/

/-- The regulation set at reset: budget disabled, allotment 0, ceiling 4096, no binding (TABLE 35). -/
def Regulation.reset : Regulation :=
  { budgetEnable := false, allotment := 0, ceiling := 4096, phaseBinding := none }

/-- A stream entry at reset, for a stream that is or is not valid then (TABLE 20, TABLE 35). -/
def StreamEntry.reset (valid : Bool) : StreamEntry :=
  { valid := valid
    fields := { sourceLow := 0, sourceHigh := 63, pageBase := 0, pageLimit := BitVec.allOnes 28
                kinds := { read := true, write := true } }
    rank := 0
    holdLimit := 32
    policy := .stall
    paused := false
    active := .reset
    staged := .reset
    balance := 0 }

/-- The window settings at reset (TABLE 29). -/
def WindowSettings.reset : WindowSettings :=
  { length := 1000, channels := Vector.replicate 4 { offset := 0, width := 0 } }

/-- The window generator at reset (TABLE 29): the interval that begins at the release has the length of the
prescaler then (R33). -/
def WindowGen.reset : WindowGen :=
  { prescaler := 100, interval := 100, partClocks := 0, partTime := 0, running := false
    active := .reset, staged := .reset, position := 0, sequence := 0
    phaseOpen := Vector.replicate 4 false, startDue := false }

/-- An event counter at reset (TABLE 66). -/
def Counter.reset : Counter :=
  { config := { enable := false, event := .arrive, filter := none, threshold := 0, test := .atLeast
                accumulate := .count, edge := false, freezeOnOverflow := false }
    value := 0, overflow := false, edgeMemory := false }

/-- The bins of a cleared histogram (R145). -/
def clearBins : Vector Bin 8 := Vector.replicate 8 { count := 0, saturated := false }

/-- The histogram at reset (TABLE 74). -/
def Histogram.reset : Histogram :=
  { config := { latencyKind := .total, filter := none, includeMemerr := false
                boundaries := #v[1, 2, 4, 8, 16, 32, 64], keepAddress := false }
    bins := clearBins
    worst := none }

/-- The accounting unit at reset (R138, R148). -/
def AccountingUnit.reset : AccountingUnit :=
  { counters := Vector.replicate 8 .reset, state := .counting, histogram := .reset, sampleDue := none }

/-- The capture queue at reset (R158). -/
def CaptureQueue.reset : CaptureQueue :=
  { records := []
    options := { includeHistogram := false, includeBalances := false, clearCounters := false
                 clearHistogram := false, captureOnFreeze := false }
    period := 0, periodicCount := 0, number := 0, missed := 0 }

/-- No sticky cause is pending. -/
def StickyCauses.none : StickyCauses :=
  { freeze := false, timeout := false, stray := false, memerr := false, linkReset := false, stall := false
    frame := false }

/-- The alert unit at reset: both sets are empty (R162). -/
def AlertUnit.reset : AlertUnit := { sticky := .none, enabled := 0 }

/-- The held response at the release of RST_N (R169). -/
def HeldResponse.fresh : HeldResponse := { status := .fresh, echo := 0, sequence := 0, data := [] }

/-- The management port at the release of RST_N, with SEL_N high (R163, R169). -/
def MgmtPort.reset : MgmtPort :=
  { selected := false, rx := .idle, miso := .ones, held := .fresh, sequence := 0 }

/-- The part right after the release of RST_N, with NLRST_N released and SEL_N high (notes/assumptions/1.md). -/
def State.reset : State :=
  { port := .accepting
    streams := Vector.ofFn fun i => StreamEntry.reset (i == 0)
    entries := []
    nextId := 0
    slots := Vector.replicate 64 { generation := 0, use := .free }
    timeout := 0
    candidate := none
    replyOrder := []
    lastServed := .synthesized
    window := .reset
    accounting := .reset
    capture := .reset
    alert := .reset
    mgmt := .reset
    rst := false
    nlrst := false
    northSent := []
    southSent := []
    freeDrawn := 0
    pending := [] }

end Sys2Proof.Machine
end

