-- ==== Sys2Proof/Machine/Flags.lean ====
section
/-! DEFINITION. What the part's state says without storing it: levels of the pending list, the data pool and the
tracking table, gate states, the arbiters' choices, the pending cause set and ALERT_N, and MISO. -/

namespace Sys2Proof.Machine

/-! ### Levels -/

/-- The entry is WAITING. -/
def PendingEntry.isWaiting (e : PendingEntry) : Bool := e.state == .waiting

/-- The request's size in bytes, 16 × beats (R73). -/
def bytesOf (beats : BitVec 5) : Nat := 16 * beats.toNat

/-- The pool beats an entry holds: those of a WAITING WRITE, and none otherwise (R70). -/
def PendingEntry.poolBeats (e : PendingEntry) : Nat :=
  if e.isWaiting && e.kind == .write then e.beats.toNat else 0

/-- The WAITING count of a stream index (R22). -/
def State.waitingCount (s : State) (i : StreamIx) : Nat :=
  s.entries.countP fun e => e.isWaiting && e.stream == i

/-- The REPLY_OWED count of a stream index (R31). -/
def State.owedCount (s : State) (i : StreamIx) : Nat :=
  s.entries.countP fun e => !e.isWaiting && e.stream == i

/-- The pool beats held by the WAITING WRITE entries of a stream index (R31). -/
def State.poolHeld (s : State) (i : StreamIx) : Nat :=
  ((s.entries.filter fun e => e.stream == i).map PendingEntry.poolBeats).sum

/-- The WAITING total (R86). -/
def State.waitingTotal (s : State) : Nat := s.entries.countP PendingEntry.isWaiting

/-- The REPLY_OWED total (R86). -/
def State.owedTotal (s : State) : Nat := s.entries.countP fun e => !e.isWaiting

/-- The beats in use in the data pool: the sum of the beats of the WAITING WRITE entries (R70). -/
def State.poolInUse (s : State) : Nat := (s.entries.map PendingEntry.poolBeats).sum

/-- The pool's free count (R70). -/
def State.poolFree (s : State) : Nat := Config.poolCapacity - s.poolInUse

/-- The slot is FREE. -/
def Slot.isFree (t : Slot) : Bool := t.use == .free

/-- The slot is in a stage of its life other than FREE. -/
def Slot.inStage (t : Slot) (g : SlotStage) : Bool :=
  match t.use with
  | .free => false
  | .busy g' _ => g' == g

/-- The slot is not FREE and carries a stream index (R39). -/
def Slot.carries (t : Slot) (i : StreamIx) : Bool :=
  match t.use with
  | .free => false
  | .busy _ r => r.stream == i

/-- The number of slots that are FREE (TABLE 83). -/
def State.slotsFree (s : State) : Nat := countWhere Slot.isFree s.slots

/-- The number of slots that are not FREE (R39). -/
def State.slotsNotFree (s : State) : Nat := countWhere (fun t => !t.isFree) s.slots

/-- The number of slots in a stage (TABLE 83). -/
def State.slotsIn (s : State) (g : SlotStage) : Nat := countWhere (fun t => t.inStage g) s.slots

/-- The number of slots in a stage that carry a stream index (R31). -/
def State.slotsOf (s : State) (g : SlotStage) (i : StreamIx) : Nat :=
  countWhere (fun t => t.inStage g && t.carries i) s.slots

/-- The number of slots that are not FREE and carry a stream index (R39). -/
def State.slotsHeld (s : State) (i : StreamIx) : Nat := countWhere (fun t => t.carries i) s.slots

/-- The lowest-numbered FREE slot (R90). -/
def State.lowestFree (s : State) : Option SlotIx := (List.finRange 64).find? fun i : SlotIx => s.slots[i].isFree

/-! ### Malformed requests and classification -/

/-- The page of an address: the address divided by 4096, rounded down (R2). -/
def pageOf (address : BitVec 40) : BitVec 28 := BitVec.ofNat 28 (address.toNat / 4096)

/-- The span of a request crosses a page boundary (R3, third condition). -/
def crossesPage (address : BitVec 40) (beats : BitVec 5) : Bool :=
  1 ≤ beats.toNat && beats.toNat ≤ 16 && address.toNat % 16 == 0
    && (address.toNat + 16 * beats.toNat - 1) / 4096 != address.toNat / 4096

/-- The request is malformed (R3). -/
def malformed (r : Request) : Bool :=
  (r.beats.toNat == 0 || 16 < r.beats.toNat)
    || r.address.toNat % 16 != 0
    || crossesPage r.address r.beats
    || (r.kind == .write && r.data.length != r.beats.toNat)
    || (r.kind == .read && r.data != [])

/-- The kind is a member of the kinds (R16). -/
def Kinds.has (k : Kinds) : Kind → Bool
  | .read => k.read
  | .write => k.write

/-- A valid stream matches a source, a page and a kind (R18). -/
def StreamEntry.matchesRequest (e : StreamEntry) (source : BitVec 6) (page : BitVec 28) (kind : Kind) : Bool :=
  e.valid && (e.fields.sourceLow ≤ source && source ≤ e.fields.sourceHigh)
    && (e.fields.pageBase ≤ page && page ≤ e.fields.pageLimit) && e.fields.kinds.has kind

/-- The stream of a well-formed request: the lowest-numbered match among 1 to 15, or 0 (R18). -/
def State.classify (s : State) (r : Request) : StreamIx :=
  ((List.finRange 16).find? fun i : StreamIx =>
    i != 0 && s.streams[i].matchesRequest r.source (pageOf r.address) r.kind).getD 0

/-- The stream found for a request, for attribution: 0 when it is malformed (R72). -/
def State.streamFor (s : State) (r : Request) : StreamIx := if malformed r then 0 else s.classify r

/-! ### Gates and the issue arbiter -/

/-- The gate states of TABLE 32. -/
inductive GateState where
  | ready
  | waitBudget
  | waitPhase
  | paused
  | invalid
deriving DecidableEq, Repr

/-- The gate state of a stream: the first line of TABLE 32 whose condition holds (R50). -/
def State.gate (s : State) (i : StreamIx) : GateState :=
  let e := s.streams[i]
  if !e.valid then .invalid
  else if e.paused then .paused
  else if !s.window.running then .ready
  else if (match e.active.phaseBinding with | some c => !s.window.phaseOpen[c] | none => false) then .waitPhase
  else if e.active.budgetEnable && e.balance ≤ 0 then .waitBudget
  else .ready

/-- The stream head of a stream: its oldest WAITING entry (R68). -/
def State.head (s : State) (i : StreamIx) : Option PendingEntry :=
  s.entries.find? fun e => e.isWaiting && e.stream == i

/-- The heads of the READY streams, in list order (R88). -/
def State.readyHeads (s : State) : List PendingEntry :=
  s.entries.filter fun e => s.head e.stream == some e && s.gate e.stream == .ready

/-- The better of the arbiter's choice so far and a younger head: a higher rank wins, an equal one does not (R88). -/
def State.betterHead (s : State) (best : Option PendingEntry) (e : PendingEntry) : Option PendingEntry :=
  match best with
  | none => some e
  | some b => if s.streams[b.stream].rank < s.streams[e.stream].rank then some e else some b

/-- The head the issue arbiter takes: highest rank, then oldest (R88). -/
def State.chooseHead (s : State) : Option PendingEntry := s.readyHeads.foldl s.betterHead none

/-! ### The north response arbiter -/

/-- The class that the arbiter gives at a take by the north link; none when neither class waits (R111), and none while
NLRST_N or RST_N is asserted, when the port offers nothing (R7, R15). -/
def State.northChoice (s : State) : Option ReplyClass :=
  if s.rst || s.nlrst then none
  else
    match s.candidate.isSome, !s.replyOrder.isEmpty with
    | true, true => some (match s.lastServed with | .forwarded => .synthesized | .synthesized => .forwarded)
    | true, false => some .forwarded
    | false, true => some .synthesized
    | false, false => none

/-! ### Window generator -/

/-- A phase open falls at the position as it stands (R37, R41): the window generator is RUNNING, the position is the
channel's offset, in 1..L − 1, its width is greater than 0, and the open has not been taken yet. -/
def WindowGen.openDue (w : WindowGen) (c : ChannelIx) : Bool :=
  let ch := w.active.channels[c]
  w.running && !w.phaseOpen[c] && w.position == ch.offset && 1 ≤ ch.offset && ch.offset < w.active.length
    && 0 < ch.width

/-- A phase close falls at the position as it stands (R37, R41): the position is offset + width, below L, and the
channel is still OPEN. -/
def WindowGen.closeDue (w : WindowGen) (c : ChannelIx) : Bool :=
  let ch := w.active.channels[c]
  w.running && w.phaseOpen[c] && w.position == ch.offset + ch.width && ch.offset + ch.width < w.active.length

/-- The slot's deadline is part time and the slot is ISSUED (R93). -/
def Slot.expiresAt (t : Slot) (now : Time) : Bool :=
  match t.use with
  | .busy .issued r => r.deadline == some now
  | _ => false

/-! ### Alert causes -/

/-- A sticky cause set as a predicate; CAPTURE is not among the stored ones (R159). -/
def StickyCauses.has (c : StickyCauses) : Cause → Bool
  | .freeze => c.freeze
  | .capture => false
  | .timeout => c.timeout
  | .stray => c.stray
  | .memerr => c.memerr
  | .linkReset => c.linkReset
  | .stall => c.stall
  | .frame => c.frame

/-- A cause is in the pending set: a sticky cause that is stored, or CAPTURE while the capture queue holds a record
(R159). -/
def State.causePending (s : State) : Cause → Bool
  | .capture => !s.capture.records.isEmpty
  | c => s.alert.sticky.has c

/-- The bit of a cause in a cause set byte (TABLE 87). -/
def Cause.bit : Cause → Nat
  | .freeze => 0
  | .capture => 1
  | .timeout => 2
  | .stray => 3
  | .memerr => 4
  | .linkReset => 5
  | .stall => 6
  | .frame => 7

/-- The eight causes in the order of their bits (TABLE 87). -/
def Cause.all : List Cause := [.freeze, .capture, .timeout, .stray, .memerr, .linkReset, .stall, .frame]

/-- The pending cause set as a byte (TABLE 87). -/
def State.pendingByte (s : State) : Byte := packByte (Cause.all.map s.causePending)

/-- A cause is in the enabled set (R161). -/
def State.causeEnabled (s : State) (c : Cause) : Bool := s.alert.enabled.getLsbD c.bit

/-- ALERT_N is low: the pending and the enabled set share a cause, and RST_N is not asserted (R160). -/
def State.alertLow (s : State) : Bool :=
  !s.rst && Cause.all.any fun c => s.causePending c && s.causeEnabled c

/-! ### MISO -/

/-- The code of a status (TABLE 87). -/
def Status.code : Status → Byte
  | .ok => 0x00
  | .fresh => 0x01
  | .busy => 0x02
  | .badArg => 0x03
  | .badIndex => 0x04
  | .state => 0x05
  | .empty => 0x06
  | .crcError => 0x10
  | .shortFrame => 0x11
  | .longFrame => 0x12
  | .unknownCmd => 0x13

/-- The held response as it is sent: status, echo code, sequence, count, data, CRC (R168). -/
def HeldResponse.bytes (h : HeldResponse) : List Byte :=
  let front := [h.status.code, h.echo, h.sequence, BitVec.ofNat 8 h.data.length] ++ h.data
  front ++ [crc8 front]

/-- Bit `k` of a frame, counted from its first bit, most significant bit of each byte first, of a run of bytes
followed by bytes of 0xFF (R163, R168). -/
def shiftedBit (bytes : List Byte) (k : Nat) : Bool :=
  ((bytes[k / 8]?).getD 0xFF).getLsbD (7 - k % 8)

/-- What MISO carries as bit `k` of the frame in progress, when it is shifted out in this state; none while SEL_N is
high and MISO is not driven (R163, R168). -/
def State.misoBit (s : State) (k : Nat) : Option Bool :=
  if s.mgmt.selected then
    match s.mgmt.miso with
    | .response bytes => some (shiftedBit bytes k)
    | .ones => some true
    | .unknown n => some (Config.freeMisoBit n k)
  else none

end Sys2Proof.Machine
end

