-- ==== Sys2Proof/Machine/Operands.lean ====
section
/-! DEFINITION. The judging of management arguments by the codes and ranges of TABLE 87 (R170, R176), and the response
data layouts of TABLE 88 (R177). -/

namespace Sys2Proof.Machine

/-! ### Arguments -/

/-- An index argument below a bound, and BAD_INDEX otherwise (R170). -/
def indexArg (n : Nat) (b : Byte) : Option (Fin n) := if h : b.toNat < n then some ⟨b.toNat, h⟩ else none

/-- A false or true code, 0 or 1 (TABLE 87). -/
def boolArg (b : Byte) : Option Bool :=
  match b.toNat with
  | 0 => some false
  | 1 => some true
  | _ => none

/-- A kinds code (TABLE 87): the empty set and any other code are refused (R25). -/
def kindsArg (b : Byte) : Option Kinds :=
  match b.toNat with
  | 1 => some { read := true, write := false }
  | 2 => some { read := false, write := true }
  | 3 => some { read := true, write := true }
  | _ => none

/-- A policy code (TABLE 87). -/
def policyArg (b : Byte) : Option Policy :=
  match b.toNat with
  | 0 => some .stall
  | 1 => some .refuse
  | _ => none

/-- A stream filter code: 0..15, or 0xFF for ANY (TABLE 87). -/
def filterArg (b : Byte) : Option (Option StreamIx) :=
  if b = 0xFF then some none else (indexArg 16 b).map some

/-- A phase binding code: a channel 0..3, or 0xFF for none (TABLE 87). -/
def bindingArg (b : Byte) : Option (Option ChannelIx) :=
  if b = 0xFF then some none else (indexArg 4 b).map some

/-- An event code (TABLE 87). -/
def eventArg (b : Byte) : Option Event :=
  match b.toNat with
  | 0 => some .arrive | 1 => some .refused | 2 => some .malformed | 3 => some .stall | 4 => some .issue
  | 5 => some .waitTime | 6 => some .exhausted | 7 => some .complete | 8 => some .memerr | 9 => some .timeout
  | 10 => some .late | 11 => some .stray | 12 => some .aborted | 13 => some .window | 14 => some .heldLevel
  | 15 => some .slotLevel | 16 => some .poolLevel | 17 => some .balanceLevel
  | _ => none

/-- A latency kind code (TABLE 87). -/
def latencyKindArg (b : Byte) : Option LatencyKind :=
  match b.toNat with
  | 0 => some .wait
  | 1 => some .memory
  | 2 => some .total
  | _ => none

/-- A flag byte that sets only the lowest `n` flags; a bit that TABLE 87 does not name is refused (R176). -/
def flagsArg (n : Nat) (b : Byte) : Option (Nat → Bool) := if b.toNat < 2 ^ n then some b.getLsbD else none

/-- The sample events, reported by a window report alone (TABLE 61). -/
def Event.isSample : Event → Bool
  | .heldLevel | .slotLevel | .poolLevel | .balanceLevel => true
  | _ => false

/-- The match fields of STREAM WRITE, checked by TABLE 18. -/
def matchArgs (a : StreamWriteArgs) : Option MatchFields :=
  if a.sourceLow.toNat < 64 ∧ a.sourceHigh.toNat < 64 ∧ a.sourceLow.toNat ≤ a.sourceHigh.toNat ∧
      a.pageBase.toNat < 2 ^ 28 ∧ a.pageLimit.toNat < 2 ^ 28 ∧ a.pageBase.toNat ≤ a.pageLimit.toNat then
    (kindsArg a.kinds).map fun k =>
      { sourceLow := BitVec.ofNat 6 a.sourceLow.toNat, sourceHigh := BitVec.ofNat 6 a.sourceHigh.toNat
        pageBase := BitVec.ofNat 28 a.pageBase.toNat, pageLimit := BitVec.ofNat 28 a.pageLimit.toNat, kinds := k }
  else none

/-- The regulation set of STREAM WRITE, checked by TABLE 18. -/
def regulationArgs (a : StreamWriteArgs) : Option Regulation :=
  match boolArg a.budgetEnable, bindingArg a.phaseBinding with
  | some en, some binding =>
    if a.allotment.toNat ≤ 1048576 ∧ 256 ≤ a.ceiling.toNat ∧ a.ceiling.toNat ≤ 2097152 then
      some { budgetEnable := en, allotment := a.allotment.toNat, ceiling := a.ceiling.toNat, phaseBinding := binding }
    else none
  | _, _ => none

/-- The rank, hold limit and overflow policy of STREAM WRITE, checked by TABLE 18. -/
def treatmentArgs (a : StreamWriteArgs) : Option (Fin 4 × Nat × Policy) :=
  match indexArg 4 a.rank, policyArg a.policy with
  | some rank, some policy =>
    if 1 ≤ a.holdLimit.toNat ∧ a.holdLimit.toNat ≤ 32 then some (rank, a.holdLimit.toNat, policy) else none
  | _, _ => none

/-- The configuration of COUNTER SET, checked by R126. -/
def counterArgs (a : CounterSetArgs) : Option CounterConfig :=
  match eventArg a.event, filterArg a.filter, flagsArg 5 a.flags with
  | some event, some filter, some flag =>
    if (flag 3 && !event.isSample) || (event == .balanceLevel && filter == none) then none
    else
      some { enable := flag 0, event := event, filter := filter, threshold := a.threshold.toNat
             test := if flag 1 then .below else .atLeast, accumulate := if flag 2 then .sum else .count
             edge := flag 3, freezeOnOverflow := flag 4 }
  | _, _, _ => none

/-- The boundaries are each at least 1 and strictly ascending (R140); no 3-byte field exceeds 16,777,215. -/
def ascending (b : Vector Nat 7) : Bool :=
  1 ≤ b[0] && b[0] < b[1] && b[1] < b[2] && b[2] < b[3] && b[3] < b[4] && b[4] < b[5] && b[5] < b[6]

/-- The configuration of HISTOGRAM SET, checked by R140. -/
def histogramArgs (a : HistogramSetArgs) : Option HistogramConfig :=
  let b := mapAll BitVec.toNat a.boundaries
  match latencyKindArg a.latencyKind, filterArg a.filter, flagsArg 2 a.flags with
  | some kind, some filter, some flag =>
    if ascending b then
      some { latencyKind := kind, filter := filter, includeMemerr := flag 0, boundaries := b, keepAddress := flag 1 }
    else none
  | _, _, _ => none

/-- The options of CAPTURE SET (R151, TABLE 87). -/
def captureOptionsArg (b : Byte) : Option CaptureOptions :=
  (flagsArg 5 b).map fun flag =>
    { includeHistogram := flag 0, includeBalances := flag 1, clearCounters := flag 2, clearHistogram := flag 3
      captureOnFreeze := flag 4 }

/-! ### Response data -/

/-- One byte of a small count. -/
def byte (n : Nat) : Byte := BitVec.ofNat 8 n

/-- A flag as one byte, 0 or 1 (TABLE 87). -/
def boolByte (b : Bool) : Byte := if b then 1 else 0

/-- The balance in two's complement over 4 bytes (R176). -/
def balanceBytes (b : Int) : List Byte := leBytes 4 (BitVec.ofInt 32 b).toNat

/-- The code of a stream filter (TABLE 87). -/
def filterByte (f : Option StreamIx) : Byte := (f.map fun i => byte i.val).getD 0xFF

/-- The code of a phase binding (TABLE 87). -/
def bindingByte (c : Option ChannelIx) : Byte := (c.map fun i => byte i.val).getD 0xFF

/-- The code of a kinds field (TABLE 87). -/
def kindsByte (k : Kinds) : Byte := packByte [k.read, k.write]

/-- The code of a policy (TABLE 87). -/
def policyByte : Policy → Byte
  | .stall => 0
  | .refuse => 1

/-- The code of a gate state (TABLE 87). -/
def gateByte : GateState → Byte
  | .ready => 0
  | .waitBudget => 1
  | .waitPhase => 2
  | .paused => 3
  | .invalid => 4

/-- The code of a slot state (TABLE 87). -/
def slotStateByte : SlotUse → Byte
  | .free => 0
  | .busy .issued _ => 1
  | .busy .timedOut _ => 2
  | .busy .orphaned _ => 3

/-- The code of a reply status, OK or MEMERR (TABLE 87). -/
def replyStatusByte (ok : Bool) : Byte := if ok then 0 else 1

/-- The code of an accounting state (TABLE 87). -/
def accountingByte : AccountingState → Byte
  | .counting => 0
  | .frozen _ => 1

/-- The code of a freeze cause (TABLE 87). -/
def freezeCauseByte : AccountingState → Byte
  | .counting => 0xFF
  | .frozen .command => 0xFE
  | .frozen (.counter i) => byte i.val

/-- The code of an event (TABLE 87). -/
def eventByte : Event → Byte
  | .arrive => 0 | .refused => 1 | .malformed => 2 | .stall => 3 | .issue => 4 | .waitTime => 5 | .exhausted => 6
  | .complete => 7 | .memerr => 8 | .timeout => 9 | .late => 10 | .stray => 11 | .aborted => 12 | .window => 13
  | .heldLevel => 14 | .slotLevel => 15 | .poolLevel => 16 | .balanceLevel => 17

/-- The counter flags (TABLE 87). -/
def counterFlagsByte (c : CounterConfig) : Byte :=
  packByte [c.enable, c.test == .below, c.accumulate == .sum, c.edge, c.freezeOnOverflow]

/-- The code of a latency kind (TABLE 87). -/
def latencyKindByte : LatencyKind → Byte
  | .wait => 0
  | .memory => 1
  | .total => 2

/-- The code of a capture cause (TABLE 87). -/
def captureCauseByte : CaptureCause → Byte
  | .command => 0
  | .periodic => 1
  | .freeze => 2

/-- The data of READ STATUS (TABLE 88). -/
def statusData (s : State) : List Byte :=
  [boolByte s.window.running] ++ leBytes 4 s.window.sequence.toNat
    ++ [accountingByte s.accounting.state, freezeCauseByte s.accounting.state, byte s.waitingTotal, byte s.owedTotal]
    ++ leBytes 2 s.poolFree
    ++ [byte s.slotsFree, byte (s.slotsIn .issued), byte (s.slotsIn .timedOut), byte (s.slotsIn .orphaned)]
    ++ (match s.port with
        | .accepting => [0, 0xFF]
        | .stalled _ i => [1, byte i.val]
        | .linkReset => [2, 0xFF])
    ++ [boolByte s.nlrst, s.pendingByte, byte s.capture.records.length]

/-- A regulation set in STREAM READ (TABLE 88). -/
def regulationData (r : Regulation) : List Byte :=
  [boolByte r.budgetEnable] ++ leBytes 4 r.allotment ++ leBytes 4 r.ceiling ++ [bindingByte r.phaseBinding]

/-- The data of STREAM READ (TABLE 88). -/
def streamData (s : State) (i : StreamIx) : List Byte :=
  let e := s.streams[i]
  [boolByte e.valid, byte e.fields.sourceLow.toNat, byte e.fields.sourceHigh.toNat]
    ++ leBytes 4 e.fields.pageBase.toNat ++ leBytes 4 e.fields.pageLimit.toNat
    ++ [kindsByte e.fields.kinds, byte e.rank.val, byte e.holdLimit, policyByte e.policy, boolByte e.paused]
    ++ regulationData e.active ++ regulationData e.staged ++ balanceBytes e.balance
    ++ [gateByte (s.gate i), byte (s.waitingCount i), byte (s.owedCount i)] ++ leBytes 2 (s.poolHeld i)
    ++ [byte (s.slotsOf .issued i), byte (s.slotsOf .timedOut i), byte (s.slotsOf .orphaned i)]

/-- The offsets and widths of the four channels in WINDOW READ, channel by channel (TABLE 88). -/
def channelsData (c : Vector Channel 4) : List Byte :=
  c.toList.flatMap fun ch => leBytes 2 ch.offset ++ leBytes 2 ch.width

/-- The data of WINDOW READ (TABLE 88). -/
def windowData (w : WindowGen) : List Byte :=
  [boolByte w.running] ++ leBytes 4 w.sequence.toNat ++ leBytes 2 w.position ++ leBytes 4 w.partTime.toNat
    ++ leBytes 2 w.prescaler ++ leBytes 2 w.active.length ++ leBytes 2 w.staged.length
    ++ channelsData w.active.channels ++ channelsData w.staged.channels ++ [packByte w.phaseOpen.toList]

/-- The data of SLOT READ (TABLE 88): presence bit 0 for the request fields, bit 1 for the deadline, bit 2 for the
candidate; an absent field is sent as 0 (R176). -/
def slotData (s : State) (i : SlotIx) : List Byte :=
  let t := s.slots[i]
  let held := s.candidate.filter fun c => c.slot == i
  let cand := [(held.map fun c => replyStatusByte c.ok).getD 0, (held.map fun c => byte c.data.length).getD 0]
  let front := leBytes 3 s.timeout ++ [slotStateByte t.use, byte t.generation.toNat]
  match t.use with
  | .free => front ++ [packByte [false, false, held.isSome]] ++ leBytes 5 0 ++ leBytes 5 0 ++ leBytes 12 0 ++ cand
  | .busy _ r =>
    front ++ [packByte [true, r.deadline.isSome, held.isSome]]
      ++ [byte r.stream.val, byte r.source.toNat, r.northTag, byte r.kind.code, byte r.beats.toNat]
      ++ leBytes 5 r.address.toNat ++ leBytes 4 r.arrivalTime.toNat ++ leBytes 4 r.issueTime.toNat
      ++ leBytes 4 (r.deadline.getD 0).toNat ++ cand

/-- The overflow flags as a byte (TABLE 87). -/
def overflowByte (u : AccountingUnit) : Byte := packByte (u.counters.toList.map Counter.overflow)

/-- The data of COUNTER READ of one counter (TABLE 88). -/
def counterData (u : AccountingUnit) (i : CounterIx) : List Byte :=
  let c := u.counters[i]
  [accountingByte u.state, freezeCauseByte u.state, eventByte c.config.event, filterByte c.config.filter]
    ++ leBytes 3 c.config.threshold ++ [counterFlagsByte c.config] ++ leBytes 5 c.value.toNat
    ++ [boolByte c.overflow, boolByte c.edgeMemory]

/-- Counter values in index order, 5 bytes each (TABLE 88). -/
def valuesData (v : List (BitVec 40)) : List Byte := v.flatMap fun x => leBytes 5 x.toNat

/-- The data of COUNTER READ of ALL (TABLE 88). -/
def countersData (u : AccountingUnit) : List Byte :=
  [accountingByte u.state, freezeCauseByte u.state] ++ valuesData (u.counters.toList.map Counter.value)
    ++ [overflowByte u]

/-- The bins and their saturation marks (TABLE 88). -/
def binsData (b : Vector Bin 8) : List Byte :=
  (b.toList.flatMap fun x => leBytes 4 x.count.toNat) ++ [packByte (b.toList.map Bin.saturated)]

/-- The data of HISTOGRAM READ part 0, laid out as the arguments of HISTOGRAM SET (TABLE 88). -/
def histogramConfigData (c : HistogramConfig) : List Byte :=
  [latencyKindByte c.latencyKind, filterByte c.filter, packByte [c.includeMemerr, c.keepAddress]]
    ++ c.boundaries.toList.flatMap fun b => leBytes 3 b

/-- The data of HISTOGRAM READ part 2 (TABLE 88). -/
def worstData : Option WorstRecord → List Byte
  | none => [0]
  | some r =>
    [1] ++ leBytes 4 r.latency.toNat
      ++ [byte r.stream.val, byte r.source.toNat, r.northTag, byte r.kind.code, byte r.beats.toNat,
          replyStatusByte r.ok, packByte [r.windowSequence.isSome, r.address.isSome]]
      ++ leBytes 4 (r.windowSequence.getD 0).toNat ++ leBytes 5 (r.address.getD 0).toNat

/-- The data of CAPTURE READ part 0, the header (TABLE 88). -/
def headerData (r : CaptureRecord) : List Byte :=
  leBytes 2 r.number.toNat
    ++ [captureCauseByte r.cause,
        packByte [r.windowSequence.isSome, r.histogram.isSome, r.balances.isSome]]
    ++ leBytes 4 (r.windowSequence.getD 0).toNat ++ leBytes 4 r.partTime.toNat
    ++ [byte r.missed, accountingByte r.accounting, freezeCauseByte r.accounting, packByte r.overflow.toList,
        byte r.waitingTotal, byte r.owedTotal]
    ++ leBytes 2 r.poolInUse ++ [byte r.slotsNotFree]

/-- The data of CAPTURE READ by part: an absent part has no data (R156, TABLE 88). -/
def captureData (r : CaptureRecord) (part : Fin 4) : List Byte :=
  match part with
  | 0 => headerData r
  | 1 => valuesData r.values.toList
  | 2 => (r.histogram.map binsData).getD []
  | 3 => (r.balances.map fun b => b.toList.flatMap balanceBytes).getD []

end Sys2Proof.Machine
end

