-- ==== Sys2Proof/Machine/Ops.lean ====
section
/-! DEFINITION. The operations that several commands share: counting a notice with its freeze and captures, the
admission attempt and its retry, the claims on slots and entries, the window start, the answer to a frame, and the
resets. -/

namespace Sys2Proof.Machine

/-! ### What the accounting unit, the capture queue and the alert unit hold -/

/-- The three blocks that a notice can change (R121, R132). -/
structure Books where
  accounting : AccountingUnit
  capture : CaptureQueue
  alert : AlertUnit

/-- The three blocks as they stand. -/
def State.books (s : State) : Books := { accounting := s.accounting, capture := s.capture, alert := s.alert }

/-- The part with those three blocks replaced. -/
def State.withBooks (s : State) (b : Books) : State :=
  { s with accounting := b.accounting, capture := b.capture, alert := b.alert }

/-- The part with its sticky causes changed. -/
def State.withSticky (s : State) (f : StickyCauses → StickyCauses) : State :=
  { s with alert := { s.alert with sticky := f s.alert.sticky } }

/-! ### Capture attempts -/

/-- The window sequence a COMMAND or FREEZE record and a worst-case record carry: present while RUNNING (R144, R150).
-/
def State.windowNumber (s : State) : Option (BitVec 32) :=
  if s.window.running then some s.window.sequence else none

/-- The balances the stream table holds (R150). -/
def State.balances (s : State) : Vector Int 16 := mapAll StreamEntry.balance s.streams

/-- The record a capture attempt builds from the part as it stands (TABLE 77). -/
def State.captureRecord (s : State) (cause : CaptureCause) (sequence : Option (BitVec 32)) (balances : Vector Int 16) :
    CaptureRecord :=
  { number := s.capture.number + 1
    cause := cause
    windowSequence := sequence
    partTime := s.window.partTime
    missed := s.capture.missed
    accounting := s.accounting.state
    overflow := mapAll Counter.overflow s.accounting.counters
    waitingTotal := s.waitingTotal
    owedTotal := s.owedTotal
    poolInUse := s.poolInUse
    slotsNotFree := s.slotsNotFree
    values := mapAll Counter.value s.accounting.counters
    histogram := if s.capture.options.includeHistogram then some s.accounting.histogram.bins else none
    balances := if s.capture.options.includeBalances then some balances else none }

/-- A counter cleared by a stored capture: value, flag and edge memory; the configuration is kept (R152). -/
def Counter.cleared (c : Counter) : Counter := { c with value := 0, overflow := false, edgeMemory := false }

/-- The histogram cleared: bins, marks and worst-case record; the configuration is kept (R145). -/
def Histogram.cleared (h : Histogram) : Histogram := { h with bins := clearBins, worst := none }

/-- The clearing that follows a stored capture, by its options (R152). -/
def AccountingUnit.clearedBy (o : CaptureOptions) (u : AccountingUnit) : AccountingUnit :=
  { u with
    counters := if o.clearCounters then mapAll Counter.cleared u.counters else u.counters
    histogram := if o.clearHistogram then u.histogram.cleared else u.histogram }

/-- One capture attempt (R152): the capture number advances; a full queue drops the attempt and counts it missed, and
a queue with room stores the record and clears by the options. -/
def State.captureAttempt (cause : CaptureCause) (sequence : Option (BitVec 32)) (balances : Vector Int 16) (s : State) :
    State :=
  s.withBooks
    (if Config.captureCapacity ≤ s.capture.records.length then
      { s.books with
        capture := { s.capture with number := s.capture.number + 1, missed := min 255 (s.capture.missed + 1) } }
    else
      { s.books with
        accounting := s.accounting.clearedBy s.capture.options
        capture := { s.capture with
          number := s.capture.number + 1
          missed := 0
          records := s.capture.records ++ [s.captureRecord cause sequence balances] } })

/-! ### Histogram samples -/

/-- A frame is being received: it began at a falling edge of SEL_N since RST_N was last asserted (R163). -/
def State.inFrame (s : State) : Bool := !s.rst && s.mgmt.rx != .idle

/-- The latency of a sample by the latency kind, modulo 2^32 (R142). -/
def SampleRecord.latency (r : SampleRecord) : LatencyKind → Time
  | .wait => r.req.issueTime - r.req.arrivalTime
  | .memory => r.forwardingTime - r.req.issueTime
  | .total => r.forwardingTime - r.req.arrivalTime

/-- The bin of a latency: the number of boundaries at or below it, which for ascending boundaries is the bin `i` with
b(i) ≤ L < b(i+1) (R143). -/
def binOf (boundaries : Vector Nat 7) (latency : Time) : Fin 8 :=
  Fin.ofNat 8 (boundaries.toList.countP fun b => b ≤ latency.toNat)

/-- One sample falls in a bin: the count rises by 1, and a count at 2^32 − 1 stays and marks the bin (R143). -/
def Bin.take (b : Bin) : Bin :=
  if b.count = BitVec.allOnes 32 then { b with saturated := true } else { b with count := b.count + 1 }

/-- The histogram samples a record: by the stream filter and the status (R141). -/
def HistogramConfig.samples (c : HistogramConfig) (r : SampleRecord) : Bool :=
  (c.filter == none || c.filter == some r.req.stream) && (r.ok || c.includeMemerr)

/-- The worst-case record that a sample makes (TABLE 71). -/
def SampleRecord.worst (r : SampleRecord) (c : HistogramConfig) : WorstRecord :=
  { latency := r.latency c.latencyKind, stream := r.req.stream, source := r.req.source, northTag := r.req.northTag
    kind := r.req.kind, beats := r.req.beats, ok := r.ok, windowSequence := r.windowSequence
    address := if c.keepAddress then some r.req.address else none }

/-- A sample is binned and compared with the worst-case record: an absent record, or a strictly smaller latency, is
replaced (R143, R144). -/
def Histogram.take (h : Histogram) (r : SampleRecord) : Histogram :=
  let latency := r.latency h.config.latencyKind
  let i := binOf h.config.boundaries latency
  let replaced := match h.worst with
    | none => true
    | some w => decide (w.latency < latency)
  { h with
    bins := setAt h.bins i h.bins[i].take
    worst := if replaced then some (r.worst h.config) else h.worst }

/-- The accounting unit is offered a sample record: taken while COUNTING, when the configuration samples it (R141). -/
def AccountingUnit.sample (r : SampleRecord) (u : AccountingUnit) : AccountingUnit :=
  if u.state == .counting && u.histogram.config.samples r then { u with histogram := u.histogram.take r } else u

/-- The accounting unit with the sample record that is due, if any, offered to it (R116). -/
def AccountingUnit.settle (u : AccountingUnit) : AccountingUnit :=
  match u.sampleDue with
  | some r => ({ u with sampleDue := none } : AccountingUnit).sample r
  | none => u

/-- The part with a sample record offered to the accounting unit. -/
def State.sample (r : SampleRecord) (s : State) : State := { s with accounting := s.accounting.sample r }

/-- The part with the sample record that is due, if any, offered to the accounting unit. -/
def State.settleSample (s : State) : State := { s with accounting := s.accounting.settle }

/-- The reply merge hands over a sample record (R116). The accounting unit takes it at once, unless a frame is in
progress, whose command may be the one event that falls between the notice just taken and this sample: then the sample
is due, and every other event takes it first (R112, R141, R147; notes/assumptions/13.md). -/
def State.handSample (r : SampleRecord) (s : State) : State :=
  if s.inFrame then { s with accounting := { s.accounting with sampleDue := some r } } else s.sample r

/-! ### Counting -/

/-- An event notice (R121). -/
structure Notice where
  event : Event
  stream : Option StreamIx
  quantity : Nat
deriving DecidableEq, Repr

/-- The window report (R39). -/
structure WindowReport where
  number : BitVec 32
  waiting : Vector Nat 16
  slots : Vector Nat 16
  pool : Vector Nat 16
  waitingTotal : Nat
  slotsTotal : Nat
  poolTotal : Nat
  balances : Vector Int 16
deriving DecidableEq, Repr

/-- The counter's test passes on a quantity (TABLE 64). -/
def CounterConfig.passes (c : CounterConfig) (q : Nat) : Bool :=
  match c.test with
  | .atLeast => c.threshold ≤ q
  | .below => q < c.threshold

/-- The counter's filter passes a notice: ANY passes every notice, a stream passes a notice that names it (R127). -/
def CounterConfig.admits (c : CounterConfig) (stream : Option StreamIx) : Bool :=
  c.filter == none || c.filter == stream

/-- What one add puts on the value: 1 under COUNT, the quantity under SUM (R128). -/
def CounterConfig.amount (c : CounterConfig) (q : Nat) : Nat :=
  match c.accumulate with
  | .count => 1
  | .sum => q

/-- An add, with whether the counter wrapped at it: the value wraps modulo 2^40 and a wrap sets the overflow flag
(R130). -/
def Counter.add (c : Counter) (q : Nat) : Counter × Bool :=
  let sum := c.value.toNat + c.config.amount q
  ({ c with value := BitVec.ofNat 40 sum, overflow := c.overflow || 2 ^ 40 ≤ sum }, decide (2 ^ 40 ≤ sum))

/-- A counter at an occurrence notice (R127, R128), with whether it wrapped. -/
def Counter.takeNotice (n : Notice) (c : Counter) : Counter × Bool :=
  if c.config.enable && c.config.event == n.event && c.config.admits n.stream && c.config.passes n.quantity then
    c.add n.quantity
  else (c, false)

/-- A level of the report as a counter's filter reads it: one index's, or the total (TABLE 63). -/
def levelFor (filter : Option StreamIx) (levels : Vector Nat 16) (total : Nat) : Nat :=
  match filter with
  | some i => levels[i]
  | none => total

/-- The sample a counter takes from a window report, if it takes one (TABLE 63). BALANCE_LEVEL with filter ANY cannot
be configured (R126). -/
def WindowReport.sampleFor (r : WindowReport) (c : CounterConfig) : Option Nat :=
  match c.event with
  | .heldLevel => some (levelFor c.filter r.waiting r.waitingTotal)
  | .slotLevel => some (levelFor c.filter r.slots r.slotsTotal)
  | .poolLevel => some (levelFor c.filter r.pool r.poolTotal)
  | .balanceLevel => c.filter.map fun i => (max r.balances[i] 0).toNat
  | _ => none

/-- A counter at a sample (R129), with whether it wrapped: with edge, it adds only when the test passes now and did
not at its previous sample, and then remembers this one. -/
def Counter.takeSample (q : Nat) (c : Counter) : Counter × Bool :=
  let pass := c.config.passes q
  let added := if pass && !(c.config.edge && c.edgeMemory) then c.add q else (c, false)
  (if c.config.edge then { added.1 with edgeMemory := pass } else added.1, added.2)

/-- A counter at a window report (TABLE 63), with whether it wrapped. -/
def Counter.takeReport (r : WindowReport) (c : Counter) : Counter × Bool :=
  if c.config.enable && c.config.event == .window then c.takeNotice { event := .window, stream := none, quantity := 0 }
  else if c.config.enable then
    match r.sampleFor c.config with
    | some q => c.takeSample q
    | none => (c, false)
  else (c, false)

/-- The freeze brought by a wrap of counter `i` (R132): accounting becomes FROZEN, the FREEZE cause is set, and the
capture queue attempts a FREEZE record when capture on freeze is set. -/
def State.freezeBy (i : CounterIx) (s : State) : State :=
  let t := (s.withBooks { s.books with accounting := { s.accounting with state := .frozen (.counter i) } }).withSticky
    fun c => { c with freeze := true }
  if t.capture.options.captureOnFreeze then t.captureAttempt .freeze t.windowNumber t.balances else t

/-- What one counting event does to the part (R127, R132): while COUNTING every counter takes it, and then the
lowest-indexed counter with freeze-on-overflow that wrapped at it, if any, freezes accounting. While FROZEN nothing is
taken. -/
def State.count (take : Counter → Counter × Bool) (s : State) : State :=
  s.withBooks
    (match s.accounting.state with
    | .frozen _ => s.books
    | .counting =>
      let results := mapAll take s.accounting.counters
      let t := s.withBooks { s.books with accounting := { s.accounting with counters := mapAll Prod.fst results } }
      match (List.finRange 8).find? fun i : CounterIx => results[i].2 && results[i].1.config.freezeOnOverflow with
      | none => t.books
      | some i => (t.freezeBy i).books)

/-- One counting event. A sample that is due is taken before it (R116, R141). -/
def State.countEvent (take : Counter → Counter × Bool) (s : State) : State := s.settleSample.count take

/-- The accounting unit takes one occurrence notice (R121, R127). -/
def State.takeNotice (n : Notice) (s : State) : State := s.countEvent (Counter.takeNotice n)

/-- The accounting unit takes the notices of one event, in their order (R122). -/
def State.emit (ns : List Notice) (s : State) : State := ns.foldl (fun t n => t.takeNotice n) s

/-! ### The admission attempt -/

/-- What an admission attempt decides (TABLE 41), with the stream found (R72). -/
inductive Verdict where
  | stall (stream : StreamIx)
  | owe (reply : ReplyKind) (stream : StreamIx)
  | enter (stream : StreamIx)
deriving DecidableEq, Repr

/-- The hold limit of the stream is reached, or the request is a WRITE that the pool has no room for (TABLE 41,
step 4). -/
def State.lacksRoom (s : State) (r : Request) (i : StreamIx) : Bool :=
  s.streams[i].holdLimit ≤ s.waitingCount i || (r.kind == .write && s.poolFree < r.beats.toNat)

/-- The five steps of an admission attempt, in order (R71). -/
def State.verdict (s : State) (r : Request) : Verdict :=
  let i := s.streamFor r
  if Config.listCapacity ≤ s.entries.length then .stall i
  else if malformed r then .owe .malformed 0
  else if s.lacksRoom r i then
    match s.streams[i].policy with
    | .refuse => .owe .refused i
    | .stall => .stall i
  else .enter i

/-- The entry that an attempt makes of a request (R67, R73, R74): data is kept in a WAITING entry alone. -/
def State.entryFor (s : State) (r : Request) (state : EntryState) (stream : StreamIx) : PendingEntry :=
  { id := s.nextId, state := state, stream := stream, source := r.source, northTag := r.tag, kind := r.kind
    address := r.address, beats := r.beats, arrivalTime := s.window.partTime
    data := if state = .waiting then r.data else [] }

/-- The notice of an admission as REPLY_OWED (R74): MALFORMED has quantity 0. -/
def owedNotice (r : Request) (stream : StreamIx) : ReplyKind → Notice
  | .malformed => { event := .malformed, stream := some stream, quantity := 0 }
  | .refused => { event := .refused, stream := some stream, quantity := bytesOf r.beats }
  | .aborted => { event := .aborted, stream := some stream, quantity := bytesOf r.beats }

/-- An attempt that stalls (R75): the request is or stays the stalled arrival, and only the attempt that begins the
stall sends the STALL notice and sets the cause. -/
def State.stall (r : Request) (i : StreamIx) (s : State) : State :=
  match s.port with
  | .stalled _ _ => { s with port := .stalled r i }
  | _ =>
    (({ s with port := .stalled r i } : State).withSticky fun c => { c with stall := true }).emit
      [{ event := .stall, stream := some i, quantity := 0 }]

/-- An attempt that admits the request as REPLY_OWED (R74): entry, reference and notice; the port is ACCEPTING. -/
def State.admitOwed (r : Request) (k : ReplyKind) (i : StreamIx) (s : State) : State :=
  ({ s with
      port := .accepting
      entries := s.entries ++ [s.entryFor r (.replyOwed k) i]
      nextId := s.nextId + 1
      replyOrder := s.replyOrder ++ [.entry s.nextId] } : State).emit [owedNotice r i k]

/-- An attempt that admits the request as WAITING (R73); the port is ACCEPTING. -/
def State.admitWaiting (r : Request) (i : StreamIx) (s : State) : State :=
  ({ s with
      port := .accepting
      entries := s.entries ++ [s.entryFor r .waiting i]
      nextId := s.nextId + 1 } : State).emit [{ event := .arrive, stream := some i, quantity := bytesOf r.beats }]

/-- One admission attempt on a request (R71). -/
def State.attempt (r : Request) (s : State) : State :=
  match s.verdict r with
  | .stall i => s.stall r i
  | .owe k i => s.admitOwed r k i
  | .enter i => s.admitWaiting r i

/-- A retry: an attempt on the stalled arrival, when there is one (R76). -/
def State.retry (s : State) : State :=
  match s.port with
  | .stalled r _ => s.attempt r
  | _ => s

/-! ### Claims on entries, slots and balances -/

/-- The list without an entry; the others keep their order (R68). -/
def removeEntry (id : Nat) (l : List PendingEntry) : List PendingEntry := l.eraseP fun e => e.id == id

/-- A slot made FREE: its request fields are cleared and its generation is kept (R98). -/
def Slot.freed (t : Slot) : Slot := { t with use := .free }

/-- A slot filled at an issue: its generation advances by 1 modulo 4 (R90). -/
def Slot.filled (t : Slot) (r : SlotRequest) : Slot := { generation := t.generation + 1, use := .busy .issued r }

/-- A slot put into another stage; its fields are kept. -/
def Slot.toStage (t : Slot) (g : SlotStage) : Slot :=
  match t.use with
  | .free => t
  | .busy _ r => { t with use := .busy g r }

/-- A slot at the assertion of NLRST_N: ISSUED and TIMED_OUT become ORPHANED, the others are not changed (R103). -/
def Slot.orphaned (t : Slot) : Slot := t.toStage .orphaned

/-- A slot at a RECLAIM that reaches it: ORPHANED becomes FREE (R102). -/
def Slot.reclaimed (t : Slot) : Slot := if t.inStage .orphaned then t.freed else t

/-- A slot at the expiries of a part time (R93). -/
def Slot.expired (now : Time) (t : Slot) : Slot := if t.expiresAt now then t.toStage .timedOut else t

/-- The slots whose deadline is part time and that are ISSUED, in increasing order of index (R93). -/
def State.expiring (s : State) : List SlotIx :=
  (List.finRange 64).filter fun i : SlotIx => s.slots[i].expiresAt s.window.partTime

/-- Expiry of every slot whose deadline is part time: TIMED_OUT, with its reference appended (R93). -/
def State.expire (s : State) : State :=
  { s with
    slots := mapAll (Slot.expired s.window.partTime) s.slots
    replyOrder := s.replyOrder ++ s.expiring.map Ref.slot }

/-- The LATE notice for a response dropped at an ORPHANED slot: part time less the slot's issue time (R96). -/
def State.lateNotice (s : State) (r : SlotRequest) : Notice :=
  { event := .late, stream := some r.stream, quantity := (s.window.partTime - r.issueTime).toNat }

/-- The request fields of an ORPHANED slot. -/
def Slot.orphan (t : Slot) : Option SlotRequest :=
  match t.use with
  | .busy .orphaned r => some r
  | _ => none

/-- The held candidate is taken again at its slot, now ORPHANED, and dropped as LATE: the candidate is released and
the slot becomes FREE (R97, R103). The notices it sends come with it. -/
def State.redropCandidate (s : State) : State × List Notice :=
  match s.candidate with
  | none => (s, [])
  | some c =>
    match s.slots[c.slot].orphan with
    | none => (s, [])
    | some r => ({ s with candidate := none, slots := setAt s.slots c.slot s.slots[c.slot].freed }, [s.lateNotice r])

/-- The stream is charged at an issue: RUNNING, with its active budget enabled (R53). -/
def State.charges (s : State) (i : StreamIx) : Bool := s.window.running && s.streams[i].active.budgetEnable

/-- The stream table after the charge of an issue (R53). -/
def State.charged (s : State) (i : StreamIx) (beats : BitVec 5) : Vector StreamEntry 16 :=
  if s.charges i then
    setAt s.streams i { s.streams[i] with balance := s.streams[i].balance - bytesOf beats }
  else s.streams

/-- The EXHAUSTED notice of a charge that leaves the balance at 0 or below, with the overdraft (R55). -/
def State.exhaustedNotice (s : State) (i : StreamIx) (beats : BitVec 5) : List Notice :=
  let balance := s.streams[i].balance - bytesOf beats
  if s.charges i && balance ≤ 0 then [{ event := .exhausted, stream := some i, quantity := (-balance).toNat }] else []

/-- A reply taken by the north link: the last-served class becomes its class (R111), and the message leaves (R7). -/
def State.northTake (s : State) (cls : ReplyClass) (r : NorthResponse) : State :=
  { s with lastServed := cls, northSent := s.northSent ++ [r.toMessage] }

/-! ### The window start -/

/-- The window report of the window that a window start ends (R39). The balance of a stream that is not valid is 0. -/
def State.windowReport (s : State) : WindowReport :=
  { number := s.window.sequence
    waiting := Vector.ofFn s.waitingCount
    slots := Vector.ofFn s.slotsHeld
    pool := Vector.ofFn s.poolHeld
    waitingTotal := s.waitingTotal
    slotsTotal := s.slotsNotFree
    poolTotal := s.poolInUse
    balances := mapAll (fun e => if e.valid then e.balance else 0) s.streams }

/-- The window generator at a window start (R38, steps 2 to 5). -/
def WindowGen.start (w : WindowGen) : WindowGen :=
  { w with
    sequence := w.sequence + 1
    active := w.staged
    position := 0
    phaseOpen := mapAll (fun ch => ch.offset == 0 && decide (0 < ch.width)) w.staged.channels }

/-- A valid stream at a window start (R58 to R60): its staged set becomes active, the balance is clamped to the new
ceiling, and a budgeted stream is replenished. A stream that is not valid is left as it is. -/
def StreamEntry.windowStart (e : StreamEntry) : StreamEntry :=
  if e.valid then
    let clamped := min e.balance e.staged.ceiling
    { e with
      active := e.staged
      balance :=
        if e.staged.budgetEnable then min (clamped + e.staged.allotment) e.staged.ceiling else clamped }
  else e

/-- The capture queue takes a window report (R153): every K reports a PERIODIC attempt. -/
def State.periodicCapture (r : WindowReport) (s : State) : State :=
  if s.capture.period = 0 then s
  else if s.capture.periodicCount + 1 = s.capture.period then
    ({ s with capture := { s.capture with periodicCount := 0 } } : State).captureAttempt .periodic (some r.number)
      r.balances
  else { s with capture := { s.capture with periodicCount := s.capture.periodicCount + 1 } }

/-- The accounting unit takes a window report as one counting event, and then the capture queue takes it (R124). -/
def State.takeReport (r : WindowReport) (s : State) : State :=
  (s.countEvent (Counter.takeReport r)).periodicCapture r

/-- A window start (R38, R40): the report of the running window it ends is built first, then the window generator and
the stream table do their work, and then the report is taken. A start from STOPPED builds no report. -/
def State.windowStart (s : State) : State :=
  let t := { s with window := { s.window.start with running := true }, streams := mapAll StreamEntry.windowStart s.streams }
  if s.window.running then t.takeReport s.windowReport else t

/-- The window start brought by the position, when it is due (R37). -/
def State.takeDueStart (s : State) : State :=
  if s.window.startDue && s.window.running then
    ({ s with window := { s.window with startDue := false } } : State).windowStart
  else s

/-! ### Management frames -/

/-- What a command's owner returns: the part, a status and data (R170). -/
structure Reply where
  state : State
  status : Status
  data : List Byte

/-- The command is taken with status OK. -/
def Reply.ok (s : State) (data : List Byte) : Reply := { state := s, status := .ok, data := data }

/-- The command is answered with a status other than OK; it changes nothing and returns no data (R170, R175). -/
def Reply.turnedAway (s : State) (status : Status) : Reply := { state := s, status := status, data := [] }

/-- SEL_N rises: no frame is in progress and the receive state is idle (R163). -/
def State.deselect (s : State) : State := { s with mgmt := { s.mgmt with selected := false, rx := .idle } }

/-- A judged frame ends: the sequence number advances and the held response is replaced (R167). -/
def State.answered (s : State) (echo : Byte) (status : Status) (data : List Byte) : State :=
  { s with
    mgmt := { s.mgmt with
      selected := false
      rx := .idle
      sequence := s.mgmt.sequence + 1
      held := { status := status, echo := echo, sequence := s.mgmt.sequence + 1, data := data } } }

/-- The owner of a command acts, and its status and data become the held response (R170). -/
def State.serve (code : Byte) (owner : State → Reply) (s : State) : State :=
  (owner s).state.answered code (owner s).status (owner s).data

/-- The commands that may fall between a COMPLETE or MEMERR notice and its sample, by their codes: those that reach the
accounting unit and of which R147 and TABLE 73 speak. WINDOW START brings a report, FREEZE, UNFREEZE, HISTOGRAM SET,
READ and CLEAR and CAPTURE NOW act on the unit itself. The rest are events of the list and the tables, between whose
effects at a take none falls (R112), or show and change nothing that a sample does (notes/assumptions/13.md). -/
def fallsBetween (code : Byte) : Bool := [0x21, 0x43, 0x44, 0x50, 0x51, 0x52, 0x61].contains code

/-- A sample record that is due leaves its place, and a free value is drawn for its order against a command. -/
def State.drawOrder (s : State) : State :=
  { s with accounting := { s.accounting with sampleDue := none }, freeDrawn := s.freeDrawn + 1 }

/-- The end of a frame that is judged as a command (TABLE 80, line 7). While a sample is due, the take was the event
just before: a command that may fall between its notice and its sample is taken before the sample or after it, by a
free value (R147; notes/assumptions/13.md), and every other command finds the sample taken. A frame that the port has
not received has no effect at its end (R163). -/
def State.runCommand (code : Byte) (owner : State → Reply) (s : State) : State :=
  if s.inFrame then
    match s.accounting.sampleDue, fallsBetween code with
    | some r, true =>
      if Config.commandFirst s.freeDrawn then (s.drawOrder.serve code owner).sample r
      else (s.drawOrder.sample r).serve code owner
    | _, _ => s.settleSample.serve code owner
  else s.deselect

/-! ### Resets -/

/-- The state of the north port that NLRST_N decides after a reset (R5). -/
def State.portAfterReset (s : State) : NorthPort := if s.nlrst then .linkReset else .accepting

/-- Every block at the values of the release of RST_N (R15); the pins keep their levels and the model's own records
stay. The receive state is idle, whether or not SEL_N is low (R163). -/
def State.powerOn (s : State) : State :=
  { State.reset with
    port := s.portAfterReset
    nlrst := s.nlrst
    mgmt := { MgmtPort.reset with selected := s.mgmt.selected, miso := s.mgmt.miso }
    northSent := s.northSent
    southSent := s.southSent
    freeDrawn := s.freeDrawn
    pending := s.pending }

/-- Every block but the management port at those values (R173). -/
def State.softReset (s : State) : State := { s.powerOn with rst := s.rst, mgmt := s.mgmt }

/-- RST_N is released inside a frame: what MISO carries in the rest of that frame is a free value
(notes/assumptions/3.md). -/
def State.cutFrame (s : State) : State :=
  if s.mgmt.selected then
    { s with mgmt := { s.mgmt with miso := .unknown s.freeDrawn }, freeDrawn := s.freeDrawn + 1 }
  else s

end Sys2Proof.Machine
end

