-- ==== Sys2Proof/Machine/Captures.lean ====
section
/-! DEFINITION. The CAPTURE and ALERT commands (chapter 10). -/

namespace Sys2Proof.Machine

/-- The part with its capture queue replaced. -/
def State.withCapture (s : State) (q : CaptureQueue) : State := { s with capture := q }

/-- CAPTURE SET (R151): K and the options are replaced together, and the periodic count becomes 0. -/
def execCaptureSet (period options : Byte) (s : State) : Host.Outcome State Fault Refusal :=
  .next <| s.runCommand 0x60 fun t =>
    match captureOptionsArg options with
    | none => .turnedAway t .badArg
    | some o => .ok (t.withCapture { t.capture with options := o, period := period.toNat, periodicCount := 0 }) []

/-- CAPTURE NOW (R155): one attempt with cause COMMAND; the answer says whether it was stored, and its number. -/
def execCaptureNow (s : State) : Host.Outcome State Fault Refusal :=
  .next <| s.runCommand 0x61 fun t =>
    .ok (t.captureAttempt .command t.windowNumber t.balances)
      (boolByte (decide (t.capture.records.length < Config.captureCapacity))
        :: leBytes 2 (t.capture.number + 1).toNat)

/-- CAPTURE READ (R156): one part of the oldest record. -/
def execCaptureRead (part : Byte) (s : State) : Host.Outcome State Fault Refusal :=
  .next <| s.runCommand 0x62 fun t =>
    match indexArg 4 part with
    | none => .turnedAway t .badArg
    | some p =>
      match t.capture.records with
      | [] => .turnedAway t .empty
      | r :: _ => .ok t (captureData r p)

/-- CAPTURE RELEASE (R157): the oldest record leaves and its number is returned. -/
def execCaptureRelease (s : State) : Host.Outcome State Fault Refusal :=
  .next <| s.runCommand 0x63 fun t =>
    match t.capture.records with
    | [] => .turnedAway t .empty
    | r :: rest => .ok (t.withCapture { t.capture with records := rest }) (leBytes 2 r.number.toNat)

/-- ALERT READ (R161). -/
def execAlertRead (s : State) : Host.Outcome State Fault Refusal :=
  .next <| s.runCommand 0x70 fun t => .ok t [t.pendingByte, t.alert.enabled]

/-- The sticky causes less those a cause set names; CAPTURE is not among them (R161). -/
def StickyCauses.acknowledge (named : Byte) (c : StickyCauses) : StickyCauses :=
  let kept (k : Cause) : Bool := c.has k && !named.getLsbD k.bit
  { freeze := kept .freeze, timeout := kept .timeout, stray := kept .stray, memerr := kept .memerr
    linkReset := kept .linkReset, stall := kept .stall, frame := kept .frame }

/-- ALERT ACK (R161). -/
def execAlertAck (causes : Byte) (s : State) : Host.Outcome State Fault Refusal :=
  .next <| s.runCommand 0x71 fun t => .ok (t.withSticky (StickyCauses.acknowledge causes)) []

/-- ALERT MASK (R161). -/
def execAlertMask (causes : Byte) (s : State) : Host.Outcome State Fault Refusal :=
  .next <| s.runCommand 0x72 fun t => .ok { t with alert := { t.alert with enabled := causes } } []

end Sys2Proof.Machine
end

