-- ==== Sys2Proof/Machine/Counters.lean ====
section
/-! DEFINITION. The COUNTER commands with FREEZE, UNFREEZE and OVERFLOW CLEAR (chapter 8), and the HISTOGRAM commands
(chapter 9). -/

namespace Sys2Proof.Machine

/-- The part with its accounting unit replaced. -/
def State.withAccounting (s : State) (u : AccountingUnit) : State := { s with accounting := u }

/-- The part with one counter replaced. -/
def State.setCounter (s : State) (i : CounterIx) (c : Counter) : State :=
  s.withAccounting { s.accounting with counters := setAt s.accounting.counters i c }

/-- COUNTER SET (R126): the configuration is replaced whole and the edge memory becomes false. -/
def execCounterSet (a : CounterSetArgs) (s : State) : Host.Outcome State Fault Refusal :=
  .next <| s.runCommand 0x40 fun t =>
    match indexArg 8 a.index with
    | none => .turnedAway t .badIndex
    | some i =>
      match counterArgs a with
      | none => .turnedAway t .badArg
      | some c => .ok (t.setCounter i { t.accounting.counters[i] with config := c, edgeMemory := false }) []

/-- COUNTER WRITE (R136): the value alone changes, with no wrap and no freeze. -/
def execCounterWrite (index : Byte) (value : BitVec 40) (s : State) : Host.Outcome State Fault Refusal :=
  .next <| s.runCommand 0x41 fun t =>
    match indexArg 8 index with
    | none => .turnedAway t .badIndex
    | some i => .ok (t.setCounter i { t.accounting.counters[i] with value := value }) []

/-- COUNTER READ (R137): one counter, or with 0xFF all eight. -/
def execCounterRead (index : Byte) (s : State) : Host.Outcome State Fault Refusal :=
  .next <| s.runCommand 0x42 fun t =>
    if index = 0xFF then .ok t (countersData t.accounting)
    else
      match indexArg 8 index with
      | none => .turnedAway t .badIndex
      | some i => .ok t (counterData t.accounting i)

/-- The accounting state after FREEZE (R133): while FROZEN the cause is kept. -/
def AccountingState.freeze : AccountingState → AccountingState
  | .counting => .frozen .command
  | .frozen c => .frozen c

/-- FREEZE (R133). -/
def execFreeze (s : State) : Host.Outcome State Fault Refusal :=
  .next <| s.runCommand 0x43 fun t =>
    .ok (t.withAccounting { t.accounting with state := t.accounting.state.freeze }) []

/-- UNFREEZE (R134). -/
def execUnfreeze (s : State) : Host.Outcome State Fault Refusal :=
  .next <| s.runCommand 0x44 fun t => .ok (t.withAccounting { t.accounting with state := .counting }) []

/-- The counters with the overflow flags that a mask names cleared (R135). -/
def clearFlags (mask : Byte) (v : Vector Counter 8) : Vector Counter 8 :=
  Vector.ofFn fun i : CounterIx => if mask.getLsbD i.val then { v[i] with overflow := false } else v[i]

/-- OVERFLOW CLEAR (R135). -/
def execOverflowClear (mask : Byte) (s : State) : Host.Outcome State Fault Refusal :=
  .next <| s.runCommand 0x45 fun t =>
    .ok (t.withAccounting { t.accounting with counters := clearFlags mask t.accounting.counters }) []

/-- The part with its histogram replaced. -/
def State.withHistogram (s : State) (h : Histogram) : State := s.withAccounting { s.accounting with histogram := h }

/-- HISTOGRAM SET (R140): the configuration is replaced whole, and bins, marks and record are cleared. -/
def execHistogramSet (a : HistogramSetArgs) (s : State) : Host.Outcome State Fault Refusal :=
  .next <| s.runCommand 0x50 fun t =>
    match histogramArgs a with
    | none => .turnedAway t .badArg
    | some c => .ok (t.withHistogram { config := c, bins := clearBins, worst := none }) []

/-- HISTOGRAM READ (R146). -/
def execHistogramRead (part : Byte) (s : State) : Host.Outcome State Fault Refusal :=
  .next <| s.runCommand 0x51 fun t =>
    match part.toNat with
    | 0 => .ok t (histogramConfigData t.accounting.histogram.config)
    | 1 =>
      .ok t ([accountingByte t.accounting.state, freezeCauseByte t.accounting.state]
        ++ binsData t.accounting.histogram.bins)
    | 2 => .ok t (worstData t.accounting.histogram.worst)
    | _ => .turnedAway t .badArg

/-- HISTOGRAM CLEAR (R145). -/
def execHistogramClear (s : State) : Host.Outcome State Fault Refusal :=
  .next <| s.runCommand 0x52 fun t => .ok (t.withHistogram t.accounting.histogram.cleared) []

end Sys2Proof.Machine
end

