-- ==== Sys2Proof/Machine/Streams.lean ====
section
/-! DEFINITION. The STREAM commands (chapters 2, 4 and 5). -/

namespace Sys2Proof.Machine

/-- The part with one stream entry rewritten. -/
def State.setStream (s : State) (i : StreamIx) (e : StreamEntry) : State := { s with streams := setAt s.streams i e }

/-- A stream entry after STREAM WRITE (R26, R27): a valid stream takes the match part and stages the regulation set; a
stream that is not valid becomes valid with the regulation set active and staged and its balance set. The paused flag
is kept. -/
def StreamEntry.written (e : StreamEntry) (fields : MatchFields) (treatment : Fin 4 × Nat × Policy)
    (regulation : Regulation) : StreamEntry :=
  { e with
    valid := true
    fields := fields
    rank := treatment.1
    holdLimit := treatment.2.1
    policy := treatment.2.2
    active := if e.valid then e.active else regulation
    staged := regulation
    balance :=
      if e.valid then e.balance
      else if regulation.budgetEnable then min regulation.allotment regulation.ceiling else 0 }

/-- The match fields that STREAM WRITE puts in an entry: those of index 0 are not checked and not written (R17, R25).
-/
def matchFor (e : StreamEntry) (i : StreamIx) (a : StreamWriteArgs) : Option MatchFields :=
  if i = 0 then some e.fields else matchArgs a

/-- STREAM WRITE (R25 to R28, R61, R64). -/
def execStreamWrite (a : StreamWriteArgs) (s : State) : Host.Outcome State Fault Refusal :=
  .next <| s.runCommand 0x10 fun t =>
    match indexArg 16 a.index with
    | none => .turnedAway t .badIndex
    | some i =>
      match matchFor t.streams[i] i a, treatmentArgs a, regulationArgs a with
      | some fields, some treatment, some regulation =>
        .ok (t.setStream i (t.streams[i].written fields treatment regulation)).retry []
      | _, _, _ => .turnedAway t .badArg

/-- STREAM READ (R31). -/
def execStreamRead (index : Byte) (s : State) : Host.Outcome State Fault Refusal :=
  .next <| s.runCommand 0x11 fun t =>
    match indexArg 16 index with
    | none => .turnedAway t .badIndex
    | some i => .ok t (streamData t i)

/-- A stream entry after STREAM DELETE (R29): a valid stream becomes not valid with its regulation part at power-on
values; a stream that is not valid is left as it is. -/
def StreamEntry.deleted (e : StreamEntry) : StreamEntry :=
  if e.valid then { e with valid := false, active := .reset, staged := .reset, balance := 0 } else e

/-- STREAM DELETE (R28, R29). -/
def execStreamDelete (index : Byte) (s : State) : Host.Outcome State Fault Refusal :=
  .next <| s.runCommand 0x12 fun t =>
    match indexArg 16 index with
    | none => .turnedAway t .badIndex
    | some i =>
      if i = 0 then .turnedAway t .badIndex
      else if 0 < t.waitingCount i then .turnedAway t .busy
      else .ok (t.setStream i t.streams[i].deleted).retry []

/-- STREAM PAUSE (R30). -/
def execStreamPause (index : Byte) (s : State) : Host.Outcome State Fault Refusal :=
  .next <| s.runCommand 0x13 fun t =>
    match indexArg 16 index with
    | none => .turnedAway t .badIndex
    | some i => .ok (t.setStream i { t.streams[i] with paused := true }) []

/-- STREAM RESUME (R30). -/
def execStreamResume (index : Byte) (s : State) : Host.Outcome State Fault Refusal :=
  .next <| s.runCommand 0x14 fun t =>
    match indexArg 16 index with
    | none => .turnedAway t .badIndex
    | some i => .ok (t.setStream i { t.streams[i] with paused := false }) []

/-- The WAITING entries of a stream, oldest first. -/
def State.waitingOf (s : State) (i : StreamIx) : List PendingEntry :=
  s.entries.filter fun e => e.isWaiting && e.stream == i

/-- An entry at STREAM PURGE of a stream (R81): a WAITING entry of it becomes REPLY_OWED ABORTED and loses its data.
-/
def PendingEntry.purged (i : StreamIx) (e : PendingEntry) : PendingEntry :=
  if e.isWaiting && e.stream == i then { e with state := .replyOwed .aborted, data := [] } else e

/-- The conversion of every WAITING entry of a stream (R81), with its references and notices in list order. -/
def State.purge (i : StreamIx) (s : State) : State :=
  ({ s with
      entries := s.entries.map (PendingEntry.purged i)
      replyOrder := s.replyOrder ++ (s.waitingOf i).map fun e => Ref.entry e.id } : State).emit
    ((s.waitingOf i).map fun e => { event := .aborted, stream := some i, quantity := bytesOf e.beats })

/-- STREAM PURGE (R81): a retry follows when one or more entries are converted. -/
def execStreamPurge (index : Byte) (s : State) : Host.Outcome State Fault Refusal :=
  .next <| s.runCommand 0x15 fun t =>
    match indexArg 16 index with
    | none => .turnedAway t .badIndex
    | some i =>
      if (t.waitingOf i).isEmpty then .ok t [0] else .ok (t.purge i).retry [byte (t.waitingOf i).length]

end Sys2Proof.Machine
end

