-- ==== Sys2Proof/Machine/Tracking.lean ====
section
/-! DEFINITION. The tracking table's commands: TIMEOUT SET, SLOT READ and RECLAIM (chapter 6). -/

namespace Sys2Proof.Machine

/-- TIMEOUT SET (R92): T for the deadlines of later issues. -/
def execTimeoutSet (t : BitVec 24) (s : State) : Host.Outcome State Fault Refusal :=
  .next <| s.runCommand 0x30 fun u =>
    if t.toNat ≤ 1048575 then .ok { u with timeout := t.toNat } [] else .turnedAway u .badArg

/-- SLOT READ (R106). -/
def execSlotRead (index : Byte) (s : State) : Host.Outcome State Fault Refusal :=
  .next <| s.runCommand 0x31 fun t =>
    match indexArg 64 index with
    | none => .turnedAway t .badIndex
    | some i => .ok t (slotData t i)

/-- RECLAIM (R102): one ORPHANED slot, or with 0xFF every ORPHANED slot, becomes FREE; the count is returned. -/
def execReclaim (index : Byte) (s : State) : Host.Outcome State Fault Refusal :=
  .next <| s.runCommand 0x32 fun t =>
    if index = 0xFF then .ok { t with slots := mapAll Slot.reclaimed t.slots } [byte (t.slotsIn .orphaned)]
    else
      match indexArg 64 index with
      | none => .turnedAway t .badIndex
      | some i =>
        if t.slots[i].inStage .orphaned then .ok { t with slots := setAt t.slots i t.slots[i].freed } [1]
        else .turnedAway t .state

end Sys2Proof.Machine
end

