-- ==== Sys2Proof/Machine/Window.lean ====
section
/-! DEFINITION. TICK SET and the WINDOW commands (chapter 3). -/

namespace Sys2Proof.Machine

/-- The part with its window generator replaced. -/
def State.withWindow (s : State) (w : WindowGen) : State := { s with window := w }

/-- TICK SET (R34): the prescaler is set; the interval in progress keeps its length. -/
def execTickSet (prescaler : BitVec 16) (s : State) : Host.Outcome State Fault Refusal :=
  .next <| s.runCommand 0x03 fun t =>
    if 1 ≤ prescaler.toNat ∧ prescaler.toNat ≤ 1023 then
      .ok (t.withWindow { t.window with prescaler := prescaler.toNat }) []
    else .turnedAway t .badArg

/-- The settings that WINDOW SET stages (R43). -/
def windowSettings (a : WindowSetArgs) : WindowSettings :=
  { length := a.length.toNat
    channels := mapAll (fun c => { offset := c.offset.toNat, width := c.width.toNat }) a.channels }

/-- WINDOW SET (R43): a length below 16 is refused; every other field holds only values in range. -/
def execWindowSet (a : WindowSetArgs) (s : State) : Host.Outcome State Fault Refusal :=
  .next <| s.runCommand 0x20 fun t =>
    if 16 ≤ a.length.toNat then .ok (t.withWindow { t.window with staged := windowSettings a }) []
    else .turnedAway t .badArg

/-- WINDOW START (R44): a window start, from STOPPED or while RUNNING. -/
def execWindowStart (s : State) : Host.Outcome State Fault Refusal :=
  .next <| s.runCommand 0x21 fun t => .ok t.windowStart []

/-- The window generator after WINDOW STOP (R45): STOPPED, at position 0, every channel CLOSED; a window start that
the position has brought does not occur. -/
def WindowGen.stop (w : WindowGen) : WindowGen :=
  if w.running then
    { w with running := false, position := 0, phaseOpen := Vector.replicate 4 false, startDue := false }
  else w

/-- WINDOW STOP (R45). -/
def execWindowStop (s : State) : Host.Outcome State Fault Refusal :=
  .next <| s.runCommand 0x22 fun t => .ok (t.withWindow t.window.stop) []

/-- WINDOW READ (R46). -/
def execWindowRead (s : State) : Host.Outcome State Fault Refusal :=
  .next <| s.runCommand 0x23 fun t => .ok t (windowData t.window)

end Sys2Proof.Machine
end

