-- ==== Sys2Proof/Machine/Frames.lean ====
section
/-! DEFINITION. The management port's own events and commands (chapter 11): the falling edge of SEL_N, frames that end
ignored, as a NOP or in error, READ STATUS and SOFT RESET. -/

namespace Sys2Proof.Machine

/-- SEL_N_FALLING_EDGE (R163, R168): a frame begins with no bytes held, and MISO carries the held response that stands
now for the whole frame. While RST_N is asserted the port receives nothing and MISO carries ones. While SEL_N is low
there is no falling edge. -/
def execSelFallingEdge (s : State) : Host.Outcome State Fault Refusal :=
  .next
    (if s.mgmt.selected then s
    else if s.rst then { s with mgmt := { s.mgmt with selected := true, rx := .idle, miso := .ones } }
    else
      { s with
        mgmt := { s.mgmt with
          selected := true, rx := .receiving RxBuffer.empty, miso := .response s.mgmt.held.bytes } })

/-- FRAME_IGNORED (TABLE 80, line 1): the frame ends with no effect. It is no command, and finds a sample taken (R147). -/
def execFrameIgnored (s : State) : Host.Outcome State Fault Refusal := .next s.settleSample.deselect

/-- NOP (R165): whatever the filler, the frame ends with no effect. It is no command, and finds a sample taken (R147). -/
def execNop (_bits : List Bool) (s : State) : Host.Outcome State Fault Refusal := .next s.settleSample.deselect

/-- READ STATUS (R171). -/
def execReadStatus (s : State) : Host.Outcome State Fault Refusal :=
  .next <| s.runCommand 0x01 fun t => .ok t (statusData t)

/-- SOFT RESET (R172, R173): BUSY while the pending list holds an entry or a slot is not FREE. -/
def execSoftReset (s : State) : Host.Outcome State Fault Refusal :=
  .next <| s.runCommand 0x02 fun t =>
    if t.entries.isEmpty && t.slotsNotFree == 0 then .ok t.softReset [] else .turnedAway t .busy

/-- The status of a frame error (TABLE 82). -/
def frameErrorStatus : FrameError → Status
  | .unknownCmd => .unknownCmd
  | .shortFrame => .shortFrame
  | .longFrame => .longFrame
  | .crcError => .crcError

/-- A frame judged in error ends (R166, R167): nothing is executed, the held response carries the error and the code
byte received, and the FRAME cause is set. It hands over no command, and finds a sample taken (R147). -/
def State.frameFailed (code : Byte) (e : FrameError) (s : State) : State :=
  (s.settleSample.withSticky fun k => { k with frame := true }).answered code (frameErrorStatus e) []

/-- A command that a frame's bytes spell, handed to its owner. The decoder gives no event that is not a command. -/
def runDecoded (c : Instr) (s : State) : Host.Outcome State Fault Refusal :=
  match c with
  | .readStatus => execReadStatus s
  | .softReset => execSoftReset s
  | .tickSet p => execTickSet p s
  | .streamWrite a => execStreamWrite a s
  | .streamRead i => execStreamRead i s
  | .streamDelete i => execStreamDelete i s
  | .streamPause i => execStreamPause i s
  | .streamResume i => execStreamResume i s
  | .streamPurge i => execStreamPurge i s
  | .windowSet a => execWindowSet a s
  | .windowStart => execWindowStart s
  | .windowStop => execWindowStop s
  | .windowRead => execWindowRead s
  | .timeoutSet t => execTimeoutSet t s
  | .slotRead i => execSlotRead i s
  | .reclaim i => execReclaim i s
  | .counterSet a => execCounterSet a s
  | .counterWrite i v => execCounterWrite i v s
  | .counterRead i => execCounterRead i s
  | .freeze => execFreeze s
  | .unfreeze => execUnfreeze s
  | .overflowClear m => execOverflowClear m s
  | .histogramSet a => execHistogramSet a s
  | .histogramRead p => execHistogramRead p s
  | .histogramClear => execHistogramClear s
  | .captureSet k o => execCaptureSet k o s
  | .captureNow => execCaptureNow s
  | .captureRead p => execCaptureRead p s
  | .captureRelease => execCaptureRelease s
  | .alertRead => execAlertRead s
  | .alertAck m => execAlertAck m s
  | .alertMask m => execAlertMask m s
  | .arrival _ | .issue | .southResponseIntake _ | .forwarding | .timeoutReply | .owedReply => execFrameIgnored s
  | .microtick | .expiry | .windowStartEvent | .phaseOpen _ | .phaseClose _ => execFrameIgnored s
  | .nlrstAssert | .nlrstRelease | .rstAssert | .rstRelease => execFrameIgnored s
  | .frameIgnored | .frameError _ | .nop _ | .selFallingEdge => execFrameIgnored s

/-- FRAME_ERROR (R163, R166, R167): the bits are sampled one by one into what the port holds of the frame, and the
frame is judged at its end by TABLE 80 on its completed bytes. Every line of the table is given its effect, so that a
frame of any bytes acts as the table says; a well-formed FRAME_ERROR is judged on a line 3 to 6. -/
def execFrameError (bits : List Bool) (s : State) : Host.Outcome State Fault Refusal :=
  match s.rst, s.mgmt.rx with
  | false, .receiving buffer =>
    match (bits.foldl RxBuffer.sample buffer).judge with
    | .ignored => execFrameIgnored s
    | .nop => execNop bits s
    | .error code e => .next (s.frameFailed code e)
    | .command c => runDecoded c s
  | _, _ => .next s.deselect

end Sys2Proof.Machine
end

