-- ==== Sys2Proof/Machine/Link.lean ====
section
/-! DEFINITION. The events of the two link ports: ARRIVAL, ISSUE, SOUTH_RESPONSE_INTAKE, and the three takes of the
north link, FORWARDING, TIMEOUT_REPLY and OWED_REPLY (chapters 1, 5, 6 and 7). -/

namespace Sys2Proof.Machine

/-- ARRIVAL (R5, R6): an ACCEPTING port takes the request and an admission attempt is made on it; in any other state
of the port, and while RST_N is asserted, the request stays offered on its channel and has no effect (R1, R15). -/
def execArrival (m : LinkMessage) (s : State) : Host.Outcome State Fault Refusal :=
  .next
    (if s.rst then s
    else
      match s.port with
      | .accepting => s.attempt (Request.ofMessage m)
      | _ => s)

/-- The south tag of a slot under a generation (R9). -/
def southTag (i : SlotIx) (generation : BitVec 2) : BitVec 8 := BitVec.ofNat 8 (4 * i.val + generation.toNat)

/-- The request fields of the slot that an entry is issued to (R90): the deadline is absent when T is 0. -/
def State.slotRequest (s : State) (e : PendingEntry) : SlotRequest :=
  { stream := e.stream, source := e.source, northTag := e.northTag, kind := e.kind, beats := e.beats
    address := e.address, arrivalTime := e.arrivalTime, issueTime := s.window.partTime
    deadline := if s.timeout = 0 then none else some (s.window.partTime + BitVec.ofNat 32 s.timeout) }

/-- The request that the south link takes at an issue (R8, R13). -/
def State.southRequest (s : State) (e : PendingEntry) (i : SlotIx) : Request :=
  { kind := e.kind, source := e.source, tag := southTag i (s.slots[i].generation + 1), address := e.address
    beats := e.beats, data := e.data }

/-- The issue of an entry to a slot (R90): the slot is filled, the entry leaves with its beats, the stream is charged,
the notices follow, and then the retry. -/
def State.issueTo (e : PendingEntry) (i : SlotIx) (s : State) : State :=
  (({ s with
      slots := setAt s.slots i (s.slots[i].filled (s.slotRequest e))
      entries := removeEntry e.id s.entries
      streams := s.charged e.stream e.beats
      southSent := s.southSent ++ [(s.southRequest e i).toMessage] } : State).emit
    ([{ event := .issue, stream := some e.stream, quantity := bytesOf e.beats },
      { event := .waitTime, stream := some e.stream, quantity := (s.window.partTime - e.arrivalTime).toNat }]
      ++ s.exhaustedNotice e.stream e.beats)).retry

/-- ISSUE (R87): with the south link ready, an issue takes place when a READY stream has a head and a slot is FREE;
otherwise nothing is offered south. -/
def execIssue (s : State) : Host.Outcome State Fault Refusal :=
  .next
    (if s.rst then s
    else
      match s.chooseHead, s.lowestFree with
      | some e, some i => s.issueTo e i
      | _, _ => s)

/-- The beat check of a delivery candidate (TABLE 15): whether it is forwarded OK. -/
def beatCheck (q : SlotRequest) (r : SouthResponse) : Bool :=
  r.status == .ok &&
    (match q.kind with
    | .read => r.data.length == q.beats.toNat
    | .write => r.data.isEmpty)

/-- A STRAY drop (R100): the notice names no stream, and the STRAY cause is set. -/
def State.strayDrop (s : State) : State :=
  (s.withSticky fun c => { c with stray := true }).emit [{ event := .stray, stream := none, quantity := 0 }]

/-- A south response intake (TABLE 51): the tag names a slot and a generation, and the slot as it stands decides. -/
def State.intake (r : SouthResponse) (s : State) : State :=
  let i : SlotIx := Fin.ofNat 64 (r.tag.toNat / 4)
  match s.slots[i].use with
  | .free => s.strayDrop
  | .busy stage q =>
    if s.slots[i].generation.toNat ≠ r.tag.toNat % 4 then s.strayDrop
    else
      match stage with
      | .orphaned => ({ s with slots := setAt s.slots i s.slots[i].freed } : State).emit [s.lateNotice q]
      | _ =>
        { s.settleSample with
          candidate := some { slot := i, ok := beatCheck q r, data := if beatCheck q r then r.data else [] } }

/-- SOUTH_RESPONSE_INTAKE (R10, R95): the south port takes the response while no delivery candidate is held and RST_N
is released; otherwise it stays offered on its channel. -/
def execSouthResponseIntake (m : LinkMessage) (s : State) : Host.Outcome State Fault Refusal :=
  .next (if s.rst || s.candidate.isSome then s else s.intake (SouthResponse.ofMessage m))

/-- The take of the forwarded response (R98, R112, R114 to R116): the slot becomes FREE, a TIMED_OUT slot's reference
is withdrawn, the notice is sent, and the sample record is handed over, with what it takes from the part at the take. -/
def State.forward (c : Candidate) (stage : SlotStage) (q : SlotRequest) (s : State) : State :=
  let now := s.window.partTime
  let t := ({ s with
      slots := setAt s.slots c.slot s.slots[c.slot].freed
      candidate := none
      replyOrder := if stage = .timedOut then s.replyOrder.erase (.slot c.slot) else s.replyOrder } : State).northTake
    .forwarded
    { source := q.source, tag := q.northTag, status := if c.ok then .ok else .memerr, data := c.data }
  ((t.withSticky fun k => { k with memerr := k.memerr || !c.ok }).emit
    [{ event := if c.ok then .complete else .memerr, stream := some q.stream
       quantity := (now - q.arrivalTime).toNat }]).handSample
    { req := q, ok := c.ok, forwardingTime := now, windowSequence := s.windowNumber }

/-- FORWARDING (R98): the north link takes the delivery candidate when the north response arbiter gives it. -/
def execForwarding (s : State) : Host.Outcome State Fault Refusal :=
  .next
    (match s.northChoice, s.candidate with
    | some .forwarded, some c =>
      match s.slots[c.slot].use with
      | .busy stage q => s.forward c stage q
      | .free => s
    | _, _ => s)

/-- The TIMEOUT notice: deadline less issue time (R117). -/
def timeoutNotice (q : SlotRequest) : Notice :=
  { event := .timeout, stream := some q.stream, quantity := (q.deadline.getD q.issueTime - q.issueTime).toNat }

/-- The take of the TIMEOUT reply of a slot (R99, R117): the slot becomes ORPHANED, its reference leaves, the cause is
set, and a candidate held for the slot is dropped as LATE. The LATE notice follows the TIMEOUT notice. -/
def State.timeOut (i : SlotIx) (q : SlotRequest) (s : State) : State :=
  let t := (({ s with
      slots := setAt s.slots i (s.slots[i].toStage .orphaned)
      replyOrder := s.replyOrder.tail } : State).northTake .synthesized
        { source := q.source, tag := q.northTag, status := .timeout, data := [] }).withSticky
    fun k => { k with timeout := true }
  if (s.candidate.map Candidate.slot) = some i then
    t.redropCandidate.1.emit (timeoutNotice q :: t.redropCandidate.2)
  else t.emit [timeoutNotice q]

/-- TIMEOUT_REPLY (R117): the north link takes the TIMEOUT reply of the slot at the head of the reply order list, when
the north response arbiter gives the synthesized class. -/
def execTimeoutReply (s : State) : Host.Outcome State Fault Refusal :=
  .next
    (match s.northChoice, s.replyOrder.head? with
    | some .synthesized, some (.slot i) =>
      match s.slots[i].use with
      | .busy .timedOut q => s.timeOut i q
      | _ => s
    | _, _ => s)

/-- The status of an owed reply by its reply kind (R117). -/
def ReplyKind.status : ReplyKind → NorthStatus
  | .refused => .refused
  | .malformed => .malformed
  | .aborted => .aborted

/-- The take of an entry's owed reply (R80, R117): the entry and its reference leave, and then the retry. -/
def State.sendOwed (e : PendingEntry) (k : ReplyKind) (s : State) : State :=
  (({ s.settleSample with
      entries := removeEntry e.id s.entries
      replyOrder := s.replyOrder.tail } : State).northTake .synthesized
    { source := e.source, tag := e.northTag, status := k.status, data := [] }).retry

/-- OWED_REPLY (R80): the north link takes the REFUSED, MALFORMED or ABORTED reply of the entry at the head of the
reply order list, when the north response arbiter gives the synthesized class. -/
def execOwedReply (s : State) : Host.Outcome State Fault Refusal :=
  .next
    (match s.northChoice, s.replyOrder.head? with
    | some .synthesized, some (.entry id) =>
      match s.entries.find? fun e => e.id == id with
      | some e =>
        match e.state with
        | .replyOwed k => s.sendOwed e k
        | .waiting => s
      | none => s
    | _, _ => s)

end Sys2Proof.Machine
end

