-- ==== Sys2Proof/Machine/Resets.lean ====
section
/-! DEFINITION. The edges of NLRST_N and RST_N (R14, R15, R83, R103, R118). -/

namespace Sys2Proof.Machine

/-- The link reset (R14): the port enters LINK_RESET, every pending entry and reference and the stalled arrival leave
without a reply, every slot in flight becomes ORPHANED, a held candidate is dropped as LATE, the last-served class is
SYNTHESIZED and the LINK_RESET cause is set. R138, R148, R158 and R162 say that NLRST_N has no effect on the
accounting unit, the histogram, the capture queue and, but for LINK_RESET, the alert sets, and R103 and R96 send the
LATE notice of the drop. The model counts that notice like every other, so that it may add, wrap a counter, freeze, set
FREEZE and attempt a FREEZE capture, and a capture that is stored clears the counters, and the bins, marks and
worst-case record, that its options name (DESIGN CHOICE: notes/assumptions/15.md). -/
def State.linkReset (s : State) : State :=
  let t := (({ s.settleSample with
      nlrst := true
      port := .linkReset
      entries := []
      replyOrder := []
      lastServed := .synthesized
      slots := mapAll Slot.orphaned s.slots } : State).withSticky fun k => { k with linkReset := true })
  t.redropCandidate.1.emit t.redropCandidate.2

/-- NLRST_N_ASSERT (R14): an assertion has its effect once; while RST_N is asserted it has none but on the level of
the pin, which decides the port's state after the release (R5). -/
def execNlrstAssert (s : State) : Host.Outcome State Fault Refusal :=
  .next (if s.nlrst then s else if s.rst then { s with nlrst := true } else s.linkReset)

/-- NLRST_N_RELEASE (R14): the north port becomes ACCEPTING. -/
def execNlrstRelease (s : State) : Host.Outcome State Fault Refusal :=
  .next
    (if !s.nlrst then s
    else if s.rst then { s with nlrst := false }
    else { s.settleSample with nlrst := false, port := .accepting })

/-- RST_N_ASSERT (R15, R163): from here on the part takes and sends nothing and receives nothing, and MISO carries
ones, in a frame in progress too; a stall ends (R75). -/
def execRstAssert (s : State) : Host.Outcome State Fault Refusal :=
  .next
    (if s.rst then s
    else
      { s.settleSample with
        rst := true, port := s.portAfterReset, mgmt := { s.mgmt with rx := .idle, miso := .ones } })

/-- RST_N_RELEASE (R15): every block holds its power-on values; what MISO carries in the rest of a frame in progress
is a free value. -/
def execRstRelease (s : State) : Host.Outcome State Fault Refusal := .next (if s.rst then s.cutFrame.powerOn else s)

end Sys2Proof.Machine
end

