-- ==== Sys2Proof/Machine/Timing.lean ====
section
/-! DEFINITION. The events of time: MICROTICK, EXPIRY, the window start brought by the position, and phase opens and
closes (chapters 3 and 6). -/

namespace Sys2Proof.Machine

/-- The phase states with every open and close that falls at the position as it stands (R37, R41). -/
def WindowGen.settledPhases (w : WindowGen) : Vector Bool 4 :=
  Vector.ofFn fun c : ChannelIx => if w.openDue c then true else if w.closeDue c then false else w.phaseOpen[c]

/-- Everything that falls at the microtick now standing and has not been taken yet: a window start, phase opens and
closes, and expiries (R37, R93; notes/assumptions/5.md). -/
def State.settle (s : State) : State :=
  let t := s.takeDueStart
  ({ t with window := { t.window with phaseOpen := t.window.settledPhases } } : State).expire

/-- The window generator at a microtick (R33, R35, R37): part time advances, the next interval takes the prescaler as
it stands, and while RUNNING the position advances; a position that reaches the active length becomes 0 and brings a
window start. -/
def WindowGen.tick (w : WindowGen) : WindowGen :=
  let reached := w.running && w.position + 1 == w.active.length
  { w with
    partTime := w.partTime + 1
    partClocks := w.partClocks + w.interval
    interval := w.prescaler
    position := if w.running then (if reached then 0 else w.position + 1) else w.position
    startDue := w.startDue || reached }

/-- MICROTICK (R33): what still falls at the microtick now standing is taken, and then part time advances. Microticks
do not run while RST_N is asserted. -/
def execMicrotick (s : State) : Host.Outcome State Fault Refusal :=
  .next
    (if s.rst then s
    else
      let t := s.settleSample.settle
      { t with window := t.window.tick })

/-- EXPIRY (R93): every ISSUED slot whose deadline is part time expires at this one event; without such a slot there is
none. -/
def execExpiry (s : State) : Host.Outcome State Fault Refusal :=
  .next (if s.rst || s.expiring.isEmpty then s else s.settleSample.expire)

/-- WINDOW_START_EVENT (R37, R38): the window start that the position has brought. -/
def execWindowStartEvent (s : State) : Host.Outcome State Fault Refusal := .next (if s.rst then s else s.takeDueStart)

/-- PHASE_OPEN (R41): the channel becomes OPEN when the position has reached its offset. -/
def execPhaseOpen (c : ChannelIx) (s : State) : Host.Outcome State Fault Refusal :=
  .next
    (if !s.rst && s.window.openDue c then
      { s.settleSample with window := { s.window with phaseOpen := setAt s.window.phaseOpen c true } }
    else s)

/-- PHASE_CLOSE (R41): the channel becomes CLOSED when the position has reached the end of its open interval. -/
def execPhaseClose (c : ChannelIx) (s : State) : Host.Outcome State Fault Refusal :=
  .next
    (if !s.rst && s.window.closeDue c then
      { s.settleSample with window := { s.window with phaseOpen := setAt s.window.phaseOpen c false } }
    else s)

end Sys2Proof.Machine
end

