-- ==== Sys2Proof/Machine/Dispatch.lean ====
section
/-! DEFINITION. The meaning of every command: one arm for each row of spec/opcode_table.json. -/

namespace Sys2Proof.Machine

def exec (i : Instr) (s : State) : Host.Outcome State Fault Refusal :=
  match i with
  | .arrival m => Sys2Proof.Machine.execArrival m s
  | .issue => Sys2Proof.Machine.execIssue s
  | .southResponseIntake m => Sys2Proof.Machine.execSouthResponseIntake m s
  | .forwarding => Sys2Proof.Machine.execForwarding s
  | .timeoutReply => Sys2Proof.Machine.execTimeoutReply s
  | .owedReply => Sys2Proof.Machine.execOwedReply s
  | .microtick => Sys2Proof.Machine.execMicrotick s
  | .expiry => Sys2Proof.Machine.execExpiry s
  | .windowStartEvent => Sys2Proof.Machine.execWindowStartEvent s
  | .phaseOpen channel => Sys2Proof.Machine.execPhaseOpen channel s
  | .phaseClose channel => Sys2Proof.Machine.execPhaseClose channel s
  | .nlrstAssert => Sys2Proof.Machine.execNlrstAssert s
  | .nlrstRelease => Sys2Proof.Machine.execNlrstRelease s
  | .rstAssert => Sys2Proof.Machine.execRstAssert s
  | .rstRelease => Sys2Proof.Machine.execRstRelease s
  | .frameIgnored => Sys2Proof.Machine.execFrameIgnored s
  | .frameError bits => Sys2Proof.Machine.execFrameError bits s
  | .nop bits => Sys2Proof.Machine.execNop bits s
  | .readStatus => Sys2Proof.Machine.execReadStatus s
  | .softReset => Sys2Proof.Machine.execSoftReset s
  | .tickSet prescaler => Sys2Proof.Machine.execTickSet prescaler s
  | .streamWrite args => Sys2Proof.Machine.execStreamWrite args s
  | .streamRead index => Sys2Proof.Machine.execStreamRead index s
  | .streamDelete index => Sys2Proof.Machine.execStreamDelete index s
  | .streamPause index => Sys2Proof.Machine.execStreamPause index s
  | .streamResume index => Sys2Proof.Machine.execStreamResume index s
  | .streamPurge index => Sys2Proof.Machine.execStreamPurge index s
  | .windowSet args => Sys2Proof.Machine.execWindowSet args s
  | .windowStart => Sys2Proof.Machine.execWindowStart s
  | .windowStop => Sys2Proof.Machine.execWindowStop s
  | .windowRead => Sys2Proof.Machine.execWindowRead s
  | .timeoutSet t => Sys2Proof.Machine.execTimeoutSet t s
  | .slotRead index => Sys2Proof.Machine.execSlotRead index s
  | .reclaim index => Sys2Proof.Machine.execReclaim index s
  | .counterSet args => Sys2Proof.Machine.execCounterSet args s
  | .counterWrite index value => Sys2Proof.Machine.execCounterWrite index value s
  | .counterRead index => Sys2Proof.Machine.execCounterRead index s
  | .freeze => Sys2Proof.Machine.execFreeze s
  | .unfreeze => Sys2Proof.Machine.execUnfreeze s
  | .overflowClear mask => Sys2Proof.Machine.execOverflowClear mask s
  | .histogramSet args => Sys2Proof.Machine.execHistogramSet args s
  | .histogramRead part => Sys2Proof.Machine.execHistogramRead part s
  | .histogramClear => Sys2Proof.Machine.execHistogramClear s
  | .captureSet period options => Sys2Proof.Machine.execCaptureSet period options s
  | .captureNow => Sys2Proof.Machine.execCaptureNow s
  | .captureRead part => Sys2Proof.Machine.execCaptureRead part s
  | .captureRelease => Sys2Proof.Machine.execCaptureRelease s
  | .alertRead => Sys2Proof.Machine.execAlertRead s
  | .alertAck causes => Sys2Proof.Machine.execAlertAck causes s
  | .alertMask causes => Sys2Proof.Machine.execAlertMask causes s
  | .selFallingEdge => Sys2Proof.Machine.execSelFallingEdge s

end Sys2Proof.Machine
end

