-- ==== Sys2Proof/Safety.lean ====
section
/-! DEFINITION. What a safe state of the part is: the laws the manual states of its lists, slots, streams, windows,
counts and frames, as predicates that every step is claimed to keep; the arguments that the tables accept; and the
response layouts of TABLE 88. -/

namespace Sys2Proof.Machine

/-- The entry has the shape that admission and STREAM PURGE give it (R67): a WAITING entry has 1 to 16 beats and, for
a WRITE, exactly its data; an entry in REPLY_OWED holds no data, has 1 to 16 beats unless it is MALFORMED, and is on
stream 0 when it is. -/
def PendingEntry.wf (e : PendingEntry) : Prop :=
  match e.state with
  | .waiting =>
    1 ≤ e.beats.toNat ∧ e.beats.toNat ≤ 16 ∧ e.data.length = if e.kind = .write then e.beats.toNat else 0
  | .replyOwed .malformed => e.data = [] ∧ e.stream = 0
  | .replyOwed _ => e.data = [] ∧ 1 ≤ e.beats.toNat ∧ e.beats.toNat ≤ 16

/-- The slot has the shape that an issue gives it (R89, R92, R93): 1 to 16 beats; a deadline when TIMED_OUT; and while
ISSUED a deadline, if any, that is part time or lies at most 1,048,575 microticks ahead of it. -/
def Slot.wf (now : Time) (t : Slot) : Prop :=
  match t.use with
  | .free => True
  | .busy stage q =>
    (1 ≤ q.beats.toNat ∧ q.beats.toNat ≤ 16) ∧
      (stage = .timedOut → q.deadline ≠ none) ∧
      (stage = .issued → ∀ d, q.deadline = some d → (d - now).toNat ≤ 1048575)

/-- The laws of the pending list, the data pool, the tracking table and the reply order list. -/
structure TrafficInv (s : State) : Prop where
  /-- The pending list never holds more than 32 entries (R68). -/
  listBound : s.entries.length ≤ 32
  /-- The beats in use never exceed 256 (R70). -/
  poolBound : s.poolInUse ≤ 256
  idsFresh : ∀ e ∈ s.entries, e.id < s.nextId
  idsDistinct : (s.entries.map PendingEntry.id).Nodup
  /-- The reply order list holds each reference at most once (R108). -/
  refsDistinct : s.replyOrder.Nodup
  /-- It names exactly the REPLY_OWED entries (R108). -/
  entryRefs : ∀ id, Ref.entry id ∈ s.replyOrder ↔ ∃ e ∈ s.entries, e.id = id ∧ e.isWaiting = false
  /-- It names exactly the TIMED_OUT slots (R94, R108). -/
  slotRefs : ∀ i : SlotIx, Ref.slot i ∈ s.replyOrder ↔ s.slots[i].inStage .timedOut = true
  /-- A delivery candidate's slot is ISSUED or TIMED_OUT (R96). -/
  candidateSlot : ∀ c, s.candidate = some c →
    s.slots[c.slot].inStage .issued = true ∨ s.slots[c.slot].inStage .timedOut = true
  /-- A delivery candidate carries data only when it is forwarded OK, and then what the beat check passed: the beats
  of a READ, nothing for a WRITE (R12, R96). -/
  candidateData : ∀ c g q, s.candidate = some c → s.slots[c.slot].use = .busy g q →
    c.data.length = if c.ok = true ∧ q.kind = .read then q.beats.toNat else 0
  entriesWf : ∀ e ∈ s.entries, e.wf
  slotsWf : ∀ i : SlotIx, s.slots[i].wf s.window.partTime
  /-- T lies in 0..1,048,575 (R92). -/
  timeoutBound : s.timeout ≤ 1048575
  /-- The north port is in LINK_RESET exactly while NLRST_N is asserted (TABLE 12). -/
  portReset : s.rst = false → (s.port = .linkReset ↔ s.nlrst = true)
  /-- While NLRST_N stays asserted nothing waits and no slot is ISSUED or TIMED_OUT (R83, R103, R118). -/
  quiet : s.rst = false → s.nlrst = true →
    s.entries = [] ∧ s.replyOrder = [] ∧ s.candidate = none ∧
      ∀ i : SlotIx, s.slots[i].inStage .issued = false ∧ s.slots[i].inStage .timedOut = false

/-- A regulation set in its ranges (TABLE 31). -/
def Regulation.wf (r : Regulation) : Prop := r.allotment ≤ 1048576 ∧ 256 ≤ r.ceiling ∧ r.ceiling ≤ 2097152

/-- A stream entry in its ranges (TABLE 17, R49): the balance lies in −255..active ceiling while valid and is 0 while
not. -/
def StreamEntry.wf (e : StreamEntry) : Prop :=
  e.fields.sourceLow ≤ e.fields.sourceHigh ∧ e.fields.pageBase ≤ e.fields.pageLimit ∧
    (e.fields.kinds.read = true ∨ e.fields.kinds.write = true) ∧
    1 ≤ e.holdLimit ∧ e.holdLimit ≤ 32 ∧ e.active.wf ∧ e.staged.wf ∧
    (e.valid = true → -255 ≤ e.balance ∧ e.balance ≤ e.active.ceiling) ∧ (e.valid = false → e.balance = 0)

/-- The laws of the stream table. -/
structure StreamInv (s : State) : Prop where
  /-- Stream 0 is always valid (R17). -/
  defaultValid : s.streams[0].valid = true
  entriesWf : ∀ i : StreamIx, s.streams[i].wf
  /-- A stream that is not valid has no stream head (R16). -/
  waitingValid : ∀ e ∈ s.entries, e.isWaiting = true → s.streams[e.stream].valid = true
  /-- A stalled arrival cannot be present while the list is empty (R172). -/
  stallHasEntries : ∀ r i, s.port = .stalled r i → s.entries ≠ []

/-- Window settings in their ranges (TABLE 24). -/
def WindowSettings.wf (w : WindowSettings) : Prop :=
  16 ≤ w.length ∧ w.length ≤ 65535 ∧
    ∀ c : ChannelIx, w.channels[c].offset ≤ 65535 ∧ w.channels[c].width ≤ 65535

/-- The laws of the window generator (TABLE 24, R36, R37, R41). -/
structure WindowInv (w : WindowGen) : Prop where
  prescalerRange : 1 ≤ w.prescaler ∧ w.prescaler ≤ 1023
  intervalRange : 1 ≤ w.interval ∧ w.interval ≤ 1023
  activeWf : w.active.wf
  stagedWf : w.staged.wf
  /-- The position never exceeds the active length minus 1 (R37). -/
  positionRange : w.position < w.active.length
  /-- In STOPPED the position is 0, every channel is CLOSED and no window start is to come (R36). -/
  stopped : w.running = false →
    w.position = 0 ∧ w.startDue = false ∧ ∀ c : ChannelIx, w.phaseOpen[c] = false
  /-- In RUNNING, with the events of the microtick now standing taken, a channel is OPEN exactly from its offset up
  to, but not including, offset + width (R41). -/
  phaseLaw : w.running = true → w.startDue = false → ∀ c : ChannelIx,
    w.settledPhases[c] =
      decide (w.active.channels[c].offset ≤ w.position ∧
        w.position < w.active.channels[c].offset + w.active.channels[c].width)

/-- A counter configuration that COUNTER SET can take (R126). -/
def CounterConfig.wf (c : CounterConfig) : Prop :=
  c.threshold ≤ 16777215 ∧ (c.edge = true → c.event.isSample = true) ∧
    (c.event = .balanceLevel → c.filter ≠ none)

/-- The laws of the accounting unit and the capture queue. -/
structure AccountingInv (s : State) : Prop where
  /-- A sample is due only within a frame (the model's place for it: R147, notes/assumptions/13.md). -/
  dueInFrame : s.accounting.sampleDue ≠ none → s.inFrame = true
  countersWf : ∀ i : CounterIx, s.accounting.counters[i].config.wf
  boundariesAscend : ascending s.accounting.histogram.config.boundaries = true
  /-- A set saturation mark stands at a full bin (R143). -/
  markedFull : ∀ i : Fin 8, s.accounting.histogram.bins[i].saturated = true →
    s.accounting.histogram.bins[i].count = BitVec.allOnes 32
  /-- A present record agrees with the keep-address setting (R144). -/
  worstAddress : ∀ r, s.accounting.histogram.worst = some r →
    r.address.isSome = s.accounting.histogram.config.keepAddress
  /-- The capture queue holds at most 4 records (R149). -/
  recordsBound : s.capture.records.length ≤ 4
  missedBound : s.capture.missed ≤ 255
  periodBound : s.capture.period ≤ 255
  /-- The periodic count lies below K, and is 0 while K is 0 (R149, R153). -/
  periodicBound : s.capture.periodicCount = 0 ∨ s.capture.periodicCount < s.capture.period

/-- The laws of the management port (R163, R167 to R169). -/
structure PortInv (s : State) : Prop where
  /-- The held response carries the sequence number as it stands. -/
  heldSequence : s.mgmt.held.sequence = s.mgmt.sequence
  /-- A held response has 0 to 64 data bytes. -/
  heldData : s.mgmt.held.data.length ≤ 64
  /-- A frame being received has SEL_N low and RST_N released, holds no bytes yet, and shows the held response. -/
  receiving : s.mgmt.rx ≠ .idle →
    s.rst = false ∧ s.mgmt.selected = true ∧ s.mgmt.rx = .receiving RxBuffer.empty ∧
      s.mgmt.miso = .response s.mgmt.held.bytes
  /-- FRESH appears at no time but before the first judged frame since RST_N. -/
  fresh : s.mgmt.held.status = .fresh → s.mgmt.held = .fresh

/-- The part is in a safe state. -/
structure Inv (s : State) : Prop where
  traffic : TrafficInv s
  streams : StreamInv s
  window : WindowInv s.window
  accounting : AccountingInv s
  port : PortInv s

/-! ### Arguments that the tables accept -/

/-- The arguments of STREAM WRITE that TABLE 18 accepts for an index 0..15: those of the source, the pages and the
kinds are not checked for index 0. -/
def streamWriteAccepted (a : StreamWriteArgs) : Prop :=
  (a.index ≠ 0 →
      a.sourceLow.toNat ≤ a.sourceHigh.toNat ∧ a.sourceHigh.toNat ≤ 63 ∧
        a.pageBase.toNat ≤ a.pageLimit.toNat ∧ a.pageLimit.toNat ≤ 2 ^ 28 - 1 ∧
        1 ≤ a.kinds.toNat ∧ a.kinds.toNat ≤ 3) ∧
    a.rank.toNat ≤ 3 ∧ 1 ≤ a.holdLimit.toNat ∧ a.holdLimit.toNat ≤ 32 ∧ a.policy.toNat ≤ 1 ∧
    a.budgetEnable.toNat ≤ 1 ∧ a.allotment.toNat ≤ 1048576 ∧
    256 ≤ a.ceiling.toNat ∧ a.ceiling.toNat ≤ 2097152 ∧
    (a.phaseBinding.toNat ≤ 3 ∨ a.phaseBinding.toNat = 255)

/-- The arguments of COUNTER SET that R126 accepts for an index 0..7: an event of TABLE 61, a stream or ANY, a flag
byte of the five flags; edge only with a sample event, codes 14 to 17, and BALANCE_LEVEL, code 17, only with a stream.
-/
def counterSetAccepted (a : CounterSetArgs) : Prop :=
  a.event.toNat ≤ 17 ∧ (a.filter.toNat ≤ 15 ∨ a.filter.toNat = 255) ∧ a.flags.toNat ≤ 31 ∧
    (a.flags.getLsbD 3 = true → 14 ≤ a.event.toNat) ∧ (a.event.toNat = 17 → a.filter.toNat ≠ 255)

/-- The arguments of HISTOGRAM SET that R140 accepts: a latency kind, a stream or ANY, a flag byte of the two flags,
and boundaries that ascend strictly from at least 1. -/
def histogramSetAccepted (a : HistogramSetArgs) : Prop :=
  a.latencyKind.toNat ≤ 2 ∧ (a.filter.toNat ≤ 15 ∨ a.filter.toNat = 255) ∧ a.flags.toNat ≤ 3 ∧
    1 ≤ a.boundaries[0].toNat ∧
    ∀ i j : Fin 7, i < j → a.boundaries[i].toNat < a.boundaries[j].toNat

/-! ### Response layouts (TABLE 88)

Each layout lists the fields of a response in the order of TABLE 88, each with its number of bytes and the number it
stands for by TABLE 87. They are written from the tables and share nothing with the data that the commands form. -/

/-- The bytes read as these fields one behind another, each least significant byte first over its number of bytes, and
end with the last field (R177). -/
def readsAs : List Byte → List (Nat × Nat) → Prop
  | d, [] => d = []
  | d, (n, v) :: fields => n ≤ d.length ∧ leNat (d.take n) = v % 256 ^ n ∧ readsAs (d.drop n) fields

/-- 1 for true and 0 for false. -/
def truth (b : Bool) : Nat := if b then 1 else 0

/-- Bit `i` for member `i`. -/
def mask {n : Nat} (f : Fin n → Bool) : Nat := ((List.finRange n).map fun i => if f i then 2 ^ i.val else 0).sum

/-- A balance in two's complement over 4 bytes (R176). -/
def signed (b : Int) : Nat := (b % 2 ^ 32).toNat

/-- The accounting state, and behind it the freeze cause. -/
def accountingFields (a : AccountingState) : List (Nat × Nat) :=
  [(1, match a with | .counting => 0 | .frozen _ => 1),
    (1, match a with | .counting => 0xFF | .frozen .command => 0xFE | .frozen (.counter i) => i.val)]

/-- A set of causes: bit 0 FREEZE, 1 CAPTURE, 2 TIMEOUT, 3 STRAY, 4 MEMERR, 5 LINK_RESET, 6 STALL, 7 FRAME. -/
def causeSet (has : Cause → Bool) : Nat :=
  truth (has .freeze) + 2 * truth (has .capture) + 4 * truth (has .timeout) + 8 * truth (has .stray) +
    16 * truth (has .memerr) + 32 * truth (has .linkReset) + 64 * truth (has .stall) + 128 * truth (has .frame)

/-- The number of slots in a stage that carry a stream, or that carry any. -/
def slotCount (s : State) (stage : SlotStage) (stream : Option StreamIx) : Nat :=
  ((List.finRange 64).filter fun j : SlotIx =>
    match s.slots[j].use with
    | .free => false
    | .busy g q => decide (g = stage ∧ (stream = none ∨ stream = some q.stream))).length

/-- The number of entries that are or are not WAITING, on a stream or on any. -/
def entryCount (s : State) (waiting : Bool) (stream : Option StreamIx) : Nat :=
  (s.entries.filter fun e => decide ((e.state = .waiting ↔ waiting = true) ∧
    (stream = none ∨ stream = some e.stream))).length

/-- The beats of the WAITING WRITE entries, of a stream or of all. -/
def beatCount (s : State) (stream : Option StreamIx) : Nat :=
  ((s.entries.filter fun e => decide (e.state = .waiting ∧ e.kind = .write ∧
    (stream = none ∨ stream = some e.stream))).map fun e => e.beats.toNat).sum

/-- READ STATUS. -/
def statusLayout (s : State) : List (Nat × Nat) :=
  [(1, truth s.window.running), (4, s.window.sequence.toNat)] ++ accountingFields s.accounting.state ++
    [(1, entryCount s true none), (1, entryCount s false none), (2, 256 - beatCount s none),
      (1, ((List.finRange 64).filter fun j : SlotIx => decide (s.slots[j].use = .free)).length),
      (1, slotCount s .issued none), (1, slotCount s .timedOut none), (1, slotCount s .orphaned none),
      (1, match s.port with | .accepting => 0 | .stalled _ _ => 1 | .linkReset => 2),
      (1, match s.port with | .stalled _ i => i.val | _ => 0xFF),
      (1, truth s.nlrst), (1, causeSet s.causePending), (1, s.capture.records.length)]

/-- A regulation set in STREAM READ. -/
def regulationLayout (r : Regulation) : List (Nat × Nat) :=
  [(1, truth r.budgetEnable), (4, r.allotment), (4, r.ceiling),
    (1, match r.phaseBinding with | some c => c.val | none => 0xFF)]

/-- STREAM READ. -/
def streamLayout (s : State) (i : StreamIx) : List (Nat × Nat) :=
  let e := s.streams[i]
  [(1, truth e.valid), (1, e.fields.sourceLow.toNat), (1, e.fields.sourceHigh.toNat), (4, e.fields.pageBase.toNat),
      (4, e.fields.pageLimit.toNat), (1, truth e.fields.kinds.read + 2 * truth e.fields.kinds.write), (1, e.rank.val),
      (1, e.holdLimit), (1, match e.policy with | .stall => 0 | .refuse => 1), (1, truth e.paused)] ++
    regulationLayout e.active ++ regulationLayout e.staged ++
    [(4, signed e.balance),
      (1, match s.gate i with | .ready => 0 | .waitBudget => 1 | .waitPhase => 2 | .paused => 3 | .invalid => 4),
      (1, entryCount s true (some i)), (1, entryCount s false (some i)), (2, beatCount s (some i)),
      (1, slotCount s .issued (some i)), (1, slotCount s .timedOut (some i)), (1, slotCount s .orphaned (some i))]

/-- The offset and width of each channel in a set of window settings. -/
def channelsLayout (w : WindowSettings) : List (Nat × Nat) :=
  (List.finRange 4).flatMap fun c : ChannelIx => [(2, w.channels[c].offset), (2, w.channels[c].width)]

/-- WINDOW READ. -/
def windowLayout (w : WindowGen) : List (Nat × Nat) :=
  [(1, truth w.running), (4, w.sequence.toNat), (2, w.position), (4, w.partTime.toNat), (2, w.prescaler),
      (2, w.active.length), (2, w.staged.length)] ++
    channelsLayout w.active ++ channelsLayout w.staged ++ [(1, mask fun c : ChannelIx => w.phaseOpen[c])]

/-- SLOT READ: a field that is absent is 0 (R176). -/
def slotLayout (s : State) (i : SlotIx) : List (Nat × Nat) :=
  let request : Option SlotRequest := match s.slots[i].use with | .free => none | .busy _ q => some q
  let held : Option Candidate := match s.candidate with
    | some c => if c.slot = i then some c else none
    | none => none
  let field (f : SlotRequest → Nat) : Nat := match request with | some q => f q | none => 0
  [(3, s.timeout),
    (1, match s.slots[i].use with
      | .free => 0 | .busy .issued _ => 1 | .busy .timedOut _ => 2 | .busy .orphaned _ => 3),
    (1, s.slots[i].generation.toNat),
    (1, field (fun q => 1 + 2 * truth q.deadline.isSome) + 4 * truth held.isSome),
    (1, field fun q => q.stream.val), (1, field fun q => q.source.toNat), (1, field fun q => q.northTag.toNat),
    (1, field fun q => match q.kind with | .read => 0 | .write => 1), (1, field fun q => q.beats.toNat),
    (5, field fun q => q.address.toNat), (4, field fun q => q.arrivalTime.toNat), (4, field fun q => q.issueTime.toNat),
    (4, field fun q => match q.deadline with | some d => d.toNat | none => 0),
    (1, match held with | some c => truth (!c.ok) | none => 0),
    (1, match held with | some c => c.data.length | none => 0)]

/-- The code of an event. -/
def eventCode : Event → Nat
  | .arrive => 0
  | .refused => 1
  | .malformed => 2
  | .stall => 3
  | .issue => 4
  | .waitTime => 5
  | .exhausted => 6
  | .complete => 7
  | .memerr => 8
  | .timeout => 9
  | .late => 10
  | .stray => 11
  | .aborted => 12
  | .window => 13
  | .heldLevel => 14
  | .slotLevel => 15
  | .poolLevel => 16
  | .balanceLevel => 17

/-- The code of a stream filter. -/
def filterCode : Option StreamIx → Nat
  | some i => i.val
  | none => 0xFF

/-- COUNTER READ of one counter. -/
def counterLayout (u : AccountingUnit) (i : CounterIx) : List (Nat × Nat) :=
  let c := u.counters[i]
  accountingFields u.state ++
    [(1, eventCode c.config.event), (1, filterCode c.config.filter), (3, c.config.threshold),
      (1, truth c.config.enable + (match c.config.test with | .atLeast => 0 | .below => 2) +
        (match c.config.accumulate with | .count => 0 | .sum => 4) + 8 * truth c.config.edge +
        16 * truth c.config.freezeOnOverflow),
      (5, c.value.toNat), (1, truth c.overflow), (1, truth c.edgeMemory)]

/-- COUNTER READ of ALL. -/
def countersLayout (u : AccountingUnit) : List (Nat × Nat) :=
  accountingFields u.state ++ ((List.finRange 8).map fun i : CounterIx => (5, u.counters[i].value.toNat)) ++
    [(1, mask fun i : CounterIx => u.counters[i].overflow)]

/-- The bins of a histogram and their marks. -/
def binsLayout (b : Vector Bin 8) : List (Nat × Nat) :=
  ((List.finRange 8).map fun i : Fin 8 => (4, b[i].count.toNat)) ++ [(1, mask fun i : Fin 8 => b[i].saturated)]

/-- HISTOGRAM READ part 0. -/
def histogramLayout (c : HistogramConfig) : List (Nat × Nat) :=
  [(1, match c.latencyKind with | .wait => 0 | .memory => 1 | .total => 2), (1, filterCode c.filter),
      (1, truth c.includeMemerr + 2 * truth c.keepAddress)] ++
    (List.finRange 7).map fun i : Fin 7 => (3, c.boundaries[i])

/-- HISTOGRAM READ part 2. -/
def worstLayout : Option WorstRecord → List (Nat × Nat)
  | none => [(1, 0)]
  | some r =>
    [(1, 1), (4, r.latency.toNat), (1, r.stream.val), (1, r.source.toNat), (1, r.northTag.toNat),
      (1, match r.kind with | .read => 0 | .write => 1), (1, r.beats.toNat), (1, truth (!r.ok)),
      (1, truth r.windowSequence.isSome + 2 * truth r.address.isSome),
      (4, match r.windowSequence with | some n => n.toNat | none => 0),
      (5, match r.address with | some a => a.toNat | none => 0)]

/-- CAPTURE READ, part by part: a part that is absent has no field (R156). -/
def captureLayout (r : CaptureRecord) (part : Fin 4) : List (Nat × Nat) :=
  match part with
  | 0 =>
    [(2, r.number.toNat), (1, match r.cause with | .command => 0 | .periodic => 1 | .freeze => 2),
        (1, truth r.windowSequence.isSome + 2 * truth r.histogram.isSome + 4 * truth r.balances.isSome),
        (4, match r.windowSequence with | some n => n.toNat | none => 0), (4, r.partTime.toNat), (1, r.missed)] ++
      accountingFields r.accounting ++
      [(1, mask fun i : CounterIx => r.overflow[i]), (1, r.waitingTotal), (1, r.owedTotal), (2, r.poolInUse),
        (1, r.slotsNotFree)]
  | 1 => (List.finRange 8).map fun i : CounterIx => (5, r.values[i].toNat)
  | 2 => match r.histogram with | some b => binsLayout b | none => []
  | 3 => match r.balances with
    | some b => (List.finRange 16).map fun i : StreamIx => (4, signed b[i])
    | none => []

/-! ### Command frames -/

/-- A command that a command frame carries: TABLE 86 gives it a code and a length. -/
def isCommand (c : Instr) : Bool := (commandBytes c).isSome

end Sys2Proof.Machine
end

