-- ==== Sys2Proof/Certificates/Slice0/Obligations.lean ====
section
/-! DEFINITION. The statements put to the provers. Every one is about the model's own step, exec and operations; a
statement that rests on a choice of the model names its log entry. -/

open Sys2Proof Sys2Proof.Machine

/-! ### The machine -/

/-- The queue is taken first in, first out: a step runs exec on the front command with the rest left in the queue, and
an empty queue idles (the model's own queue: notes/assumptions/2.md). -/
def Obligations.StepRunsFrontCommand : Prop :=
  (∀ (c : Instr) (rest : List Instr) (s : State),
      step { s with pending := c :: rest } = exec c { s with pending := rest }) ∧
    ∀ s : State, s.pending = [] → step s = .next s

/-- Every command has an outcome in every state, no command touches the queue, and no message that a link has taken
from the part is ever called back (R1; the logs of messages are the model's: notes/assumptions/6.md). -/
def Obligations.EveryCommandAnswersNext : Prop :=
  ∀ (c : Instr) (s : State),
    ∃ t, exec c s = .next t ∧ t.pending = s.pending ∧ s.northSent <+: t.northSent ∧ s.southSent <+: t.southSent

/-! ### Arrivals and admission -/

/-- An ACCEPTING port takes a well-formed request for which the list, the hold limit and the pool have room, and it
waits: the entry, the levels and the notice of R73. That the notice is taken with the entry already in the list, which
a FREEZE record's levels show, is the model's inference (DEDUCED: notes/assumptions/11.md), and the entry's name is
its own (notes/assumptions/4.md). -/
def Obligations.ArrivalIsAdmittedWaiting : Prop :=
  ∀ (m : LinkMessage) (s : State),
    let r := Request.ofMessage m
    let i := s.classify r
    s.rst = false → s.port = .accepting → s.entries.length < 32 → malformed r = false →
    s.waitingCount i < s.streams[i].holdLimit → (r.kind = .write → r.beats.toNat ≤ s.poolFree) →
    ∃ t, exec (.arrival m) s = .next t ∧
      t = ({ s with
          entries := s.entries ++
            [{ id := s.nextId, state := .waiting, stream := i, source := r.source, northTag := r.tag, kind := r.kind
               address := r.address, beats := r.beats, arrivalTime := s.window.partTime, data := r.data }]
          nextId := s.nextId + 1 } : State).takeNotice
        { event := .arrive, stream := some i, quantity := 16 * r.beats.toNat } ∧
      t.waitingCount i = s.waitingCount i + 1 ∧ (∀ j, j ≠ i → t.waitingCount j = s.waitingCount j) ∧
      t.poolInUse = s.poolInUse + if r.kind = .write then r.beats.toNat else 0

/-- An ACCEPTING port takes a malformed request, or one that its stream's REFUSE policy turns away, and owes it a
reply at once: the entry without data, the reference behind every other, the notice of R74; no WAITING count and no
pool beat. That the notice is taken with entry and reference already there, which a FREEZE record's levels show, is
the model's inference (DEDUCED: notes/assumptions/11.md), and the entry's name is its own (notes/assumptions/4.md). -/
def Obligations.ArrivalIsOwedReply : Prop :=
  ∀ (m : LinkMessage) (s : State),
    let r := Request.ofMessage m
    let i := s.classify r
    let owed (k : ReplyKind) (j : StreamIx) (q : Nat) (e : Event) : State :=
      ({ s with
          entries := s.entries ++
            [{ id := s.nextId, state := .replyOwed k, stream := j, source := r.source, northTag := r.tag, kind := r.kind
               address := r.address, beats := r.beats, arrivalTime := s.window.partTime, data := [] }]
          nextId := s.nextId + 1
          replyOrder := s.replyOrder ++ [.entry s.nextId] } : State).takeNotice
        { event := e, stream := some j, quantity := q }
    s.rst = false → s.port = .accepting → s.entries.length < 32 →
      (malformed r = true → exec (.arrival m) s = .next (owed .malformed 0 0 .malformed)) ∧
      (malformed r = false →
        (s.streams[i].holdLimit ≤ s.waitingCount i ∨ (r.kind = .write ∧ s.poolFree < r.beats.toNat)) →
        s.streams[i].policy = .refuse →
        exec (.arrival m) s = .next (owed .refused i (16 * r.beats.toNat) .refused)) ∧
      ∀ k j q e, (owed k j q e).poolInUse = s.poolInUse ∧ ∀ n, (owed k j q e).waitingCount n = s.waitingCount n

/-- An ACCEPTING port takes a request that finds the list full, or its stream full under STALL, and holds it as the
stalled arrival, with the STALL notice and cause naming the stream found (R71, R72, R75). -/
def Obligations.ArrivalStalls : Prop :=
  ∀ (m : LinkMessage) (s : State),
    let r := Request.ofMessage m
    let i := s.classify r
    let stalled (j : StreamIx) : State :=
      ({ s with
          port := .stalled r j
          alert := { s.alert with sticky := { s.alert.sticky with stall := true } } } : State).takeNotice
        { event := .stall, stream := some j, quantity := 0 }
    s.rst = false → s.port = .accepting →
      (32 ≤ s.entries.length → exec (.arrival m) s = .next (stalled (if malformed r then 0 else i))) ∧
      (s.entries.length < 32 → malformed r = false →
        (s.streams[i].holdLimit ≤ s.waitingCount i ∨ (r.kind = .write ∧ s.poolFree < r.beats.toNat)) →
        s.streams[i].policy = .stall →
        exec (.arrival m) s = .next (stalled i))

/-- A retry is a fresh attempt: when it admits or answers the stalled arrival it leaves what the arrival of the same
request at an ACCEPTING port would leave, and when it stalls again it replaces the stream found and nothing else. The
port is otherwise left as it is (R75, R76). -/
def Obligations.RetryIsAFreshAttempt : Prop :=
  (∀ (m : LinkMessage) (i : StreamIx) (s : State),
    s.rst = false → s.port = .stalled (Request.ofMessage m) i →
      ((∀ j, s.verdict (Request.ofMessage m) ≠ .stall j) →
        exec (.arrival m) { s with port := .accepting } = .next s.retry ∧ s.retry.port = .accepting) ∧
      ∀ j, s.verdict (Request.ofMessage m) = .stall j →
        s.retry = { s with port := .stalled (Request.ofMessage m) j } ∧
          j = s.streamFor (Request.ofMessage m)) ∧
    ∀ s : State, (∀ r i, s.port ≠ .stalled r i) → s.retry = s

/-- A message that is only offered has no effect: the commands of the six transfers leave the part as it is when the
port does not take or give one (R1, R5, R7, R10, R87; that such an event is a command that changes nothing is the
reading of notes/assumptions/7.md). -/
def Obligations.OfferedMessageHasNoEffect : Prop :=
  (∀ m s, s.rst = true ∨ s.port ≠ .accepting → exec (.arrival m) s = .next s) ∧
    (∀ m s, s.rst = true ∨ s.candidate ≠ none → exec (.southResponseIntake m) s = .next s) ∧
    (∀ s : State, s.rst = true ∨ s.chooseHead = none ∨ s.lowestFree = none → exec .issue s = .next s) ∧
    (∀ s : State, s.northChoice ≠ some .forwarded → exec .forwarding s = .next s) ∧
    (∀ s : State, s.northChoice ≠ some .synthesized →
      exec .timeoutReply s = .next s ∧ exec .owedReply s = .next s) ∧
    (∀ (s : State) (i : SlotIx), s.replyOrder.head? = some (.slot i) → exec .owedReply s = .next s) ∧
    ∀ (s : State) (id : Nat), s.replyOrder.head? = some (.entry id) → exec .timeoutReply s = .next s

/-- Classification (R18): the lowest-numbered valid stream among 1 to 15 whose four tests the request meets, stream 0
when there is none or the request is malformed; nothing but the valid flags and the match fields is read. -/
def Obligations.ClassificationIsLowestMatch : Prop :=
  ∀ (s : State) (r : Request),
    let meets (i : StreamIx) : Prop :=
      i ≠ 0 ∧ s.streams[i].valid = true ∧
        (s.streams[i].fields.sourceLow.toNat ≤ r.source.toNat ∧
          r.source.toNat ≤ s.streams[i].fields.sourceHigh.toNat) ∧
        (s.streams[i].fields.pageBase.toNat ≤ r.address.toNat / 4096 ∧
          r.address.toNat / 4096 ≤ s.streams[i].fields.pageLimit.toNat) ∧
        (match r.kind with
          | .read => s.streams[i].fields.kinds.read
          | .write => s.streams[i].fields.kinds.write) = true
    (malformed r = true → s.streamFor r = 0) ∧
    (malformed r = false →
      (∀ i, meets i → (∀ j, j < i → ¬ meets j) → s.streamFor r = i) ∧ ((∀ i, ¬ meets i) → s.streamFor r = 0)) ∧
    ∀ t : State,
      (∀ i : StreamIx, t.streams[i].valid = s.streams[i].valid ∧ t.streams[i].fields = s.streams[i].fields) →
        t.streamFor r = s.streamFor r

/-- What a request that is not malformed looks like: 1 to 16 beats, an aligned address, a span that stays in its page,
and exactly the data its kind carries. -/
def Obligations.WellFormedRequestShape : Prop :=
  ∀ r : Request,
    malformed r = false ↔
      1 ≤ r.beats.toNat ∧ r.beats.toNat ≤ 16 ∧ r.address.toNat % 16 = 0 ∧
        r.address.toNat % 4096 + 16 * r.beats.toNat ≤ 4096 ∧
        r.data.length = match r.kind with | .read => 0 | .write => r.beats.toNat

/-! ### Gates, the arbiter and issue -/

/-- The gate state is the first line of TABLE 32 whose condition holds, and a head is eligible for issue only while
its stream is READY; a valid stream that is not paused, without a budget and without a binding, is READY whatever else
holds, and stream 0 is such a stream after the release of RST_N and after a SOFT RESET that is taken (R50). -/
def Obligations.GateStateIsFirstLine : Prop :=
  (∀ (s : State) (i : StreamIx),
    let e := s.streams[i]
    let closed := ∃ c, e.active.phaseBinding = some c ∧ s.window.phaseOpen[c] = false
    let spent := e.active.budgetEnable = true ∧ e.balance ≤ 0
    let free := e.valid = true ∧ e.paused = false ∧ e.active.budgetEnable = false ∧ e.active.phaseBinding = none
    (e.valid = false → s.gate i = .invalid) ∧
      (e.valid = true →
        (e.paused = true → s.gate i = .paused) ∧
        (e.paused = false →
          (s.window.running = false → s.gate i = .ready) ∧
          (s.window.running = true →
            (closed → s.gate i = .waitPhase) ∧
            (¬ closed → (spent → s.gate i = .waitBudget) ∧ (¬ spent → s.gate i = .ready))))) ∧
      (free → s.gate i = .ready)) ∧
  (∀ (s : State) (e : PendingEntry), s.chooseHead = some e → s.gate e.stream = .ready) ∧
  ∀ s t : State,
    (s.rst = true ∧ exec .rstRelease s = .next t) ∨
      (s.inFrame = true ∧ s.entries = [] ∧ (∀ i : SlotIx, s.slots[i].use = .free) ∧ exec .softReset s = .next t) →
    t.gate 0 = .ready ∧ t.streams[0].valid = true ∧ t.streams[0].paused = false ∧
      t.streams[0].active.budgetEnable = false ∧ t.streams[0].active.phaseBinding = none

/-- The head of a stream is its oldest WAITING entry, and the arbiter takes, among the heads of READY streams, the one
of the highest rank and, at equal rank, the one nearest the old end of the list; it takes none only when no READY
stream has a head (R68, R88). -/
def Obligations.ArbiterTakesHighestRankThenOldest : Prop :=
  (∀ (s : State) (i : StreamIx) (e : PendingEntry),
    s.head i = some e ↔
      ∃ older younger, s.entries = older ++ e :: younger ∧ e.state = .waiting ∧ e.stream = i ∧
        ∀ x ∈ older, ¬ (x.state = .waiting ∧ x.stream = i)) ∧
  (∀ (s : State) (e : PendingEntry),
    s.entries.Nodup → s.chooseHead = some e →
      s.head e.stream = some e ∧ s.gate e.stream = .ready ∧
        ∀ (i : StreamIx) (e' : PendingEntry), s.head i = some e' → s.gate i = .ready →
          s.streams[i].rank < s.streams[e.stream].rank ∨
            (s.streams[i].rank = s.streams[e.stream].rank ∧ (e' = e ∨ [e, e'].Sublist s.entries))) ∧
  ∀ s : State, s.chooseHead = none ↔ ∀ i : StreamIx, s.gate i = .ready → s.head i = none

/-- The south tag names the slot and its new generation, each tag one pair, and it is the one field that the part
changes on the way south; the north tag stays in the slot (R9). -/
def Obligations.SouthTagNamesSlotAndGeneration : Prop :=
  (∀ (i : SlotIx) (g : BitVec 2), (southTag i g).toNat = 4 * i.val + g.toNat) ∧
    (∀ (i j : SlotIx) (g h : BitVec 2), southTag i g = southTag j h → i = j ∧ g = h) ∧
    (∀ tag : BitVec 8, ∃ i g, southTag i g = tag) ∧
    ∀ (s : State) (e : PendingEntry) (i : SlotIx),
      s.rst = false → s.chooseHead = some e → s.lowestFree = some i →
        ∃ t m q, exec .issue s = .next t ∧ t.southSent = s.southSent ++ [m] ∧
          t.slots[i] = { generation := s.slots[i].generation + 1, use := .busy .issued q } ∧
          q.northTag = e.northTag ∧
          Request.ofMessage m =
            { kind := e.kind, source := e.source, tag := southTag i (s.slots[i].generation + 1), address := e.address
              beats := e.beats, data := e.data }

/-- An issue (R90): the chosen head goes to the lowest FREE slot in one event with its removal, the charge and the
notices, and a retry follows. That the notices are taken with the slot filled and the entry gone, and before the
retry, which a FREEZE record's levels show, is the model's inference (DEDUCED: notes/assumptions/11.md). -/
def Obligations.IssueSendsTheChosenHead : Prop :=
  (∀ (s : State) (i : SlotIx),
    s.lowestFree = some i ↔ s.slots[i].use = .free ∧ ∀ j : SlotIx, j < i → s.slots[j].use ≠ .free) ∧
  ∀ (s : State) (e : PendingEntry) (i : SlotIx),
    let now := s.window.partTime
    let b := s.streams[e.stream]
    let charged := s.window.running && b.active.budgetEnable
    let balance : Int := b.balance - 16 * e.beats.toNat
    s.rst = false → s.chooseHead = some e → s.lowestFree = some i → (s.entries.map PendingEntry.id).Nodup →
      exec .issue s = .next
        (({ s with
            slots := setAt s.slots i
              { generation := s.slots[i].generation + 1
                use := .busy .issued
                  { stream := e.stream, source := e.source, northTag := e.northTag, kind := e.kind, beats := e.beats
                    address := e.address, arrivalTime := e.arrivalTime, issueTime := now
                    deadline := if s.timeout = 0 then none else some (now + BitVec.ofNat 32 s.timeout) } }
            entries := s.entries.erase e
            streams := if charged then setAt s.streams e.stream { b with balance := balance } else s.streams
            southSent := s.southSent ++
              [({ kind := e.kind, source := e.source, tag := southTag i (s.slots[i].generation + 1)
                  address := e.address, beats := e.beats, data := e.data } : Request).toMessage] } : State).emit
          ([{ event := .issue, stream := some e.stream, quantity := 16 * e.beats.toNat },
            { event := .waitTime, stream := some e.stream, quantity := (now - e.arrivalTime).toNat }] ++
            if charged && decide (balance ≤ 0) then
              [{ event := .exhausted, stream := some e.stream, quantity := (-balance).toNat }]
            else [])).retry

/-! ### South responses and north replies -/

/-- A south response intake has the three outcomes of TABLE 51: the delivery candidate with its beat check (TABLE 15),
the LATE drop that frees the slot, and the STRAY drop that leaves it. That the LATE notice is taken with the slot
already FREE, which a FREEZE record's slot count shows, is the model's inference (DEDUCED: notes/assumptions/11.md); a
sample that is due in the part is taken first (notes/assumptions/13.md). -/
def Obligations.SouthResponseIntakeOutcomes : Prop :=
  ∀ (m : LinkMessage) (s : State) (i : SlotIx) (g : BitVec 2),
    let r := SouthResponse.ofMessage m
    s.rst = false → s.candidate = none → r.tag = southTag i g →
      (∀ stage q, s.slots[i] = { generation := g, use := .busy stage q } → stage = .issued ∨ stage = .timedOut →
        let passes := decide (r.status = .ok ∧
          r.data.length = match q.kind with | .read => q.beats.toNat | .write => 0)
        exec (.southResponseIntake m) s =
          .next { s.settleSample with
            candidate := some { slot := i, ok := passes, data := if passes then r.data else [] } }) ∧
      (∀ q, s.slots[i] = { generation := g, use := .busy .orphaned q } →
        exec (.southResponseIntake m) s = .next
          (({ s with slots := setAt s.slots i { generation := g, use := .free } } : State).takeNotice
            { event := .late, stream := some q.stream, quantity := (s.window.partTime - q.issueTime).toNat })) ∧
      (s.slots[i].use = .free ∨ s.slots[i].generation ≠ g →
        exec (.southResponseIntake m) s = .next
          (({ s with alert := { s.alert with sticky := { s.alert.sticky with stray := true } } } : State).takeNotice
            { event := .stray, stream := none, quantity := 0 }))

/-- The north response arbiter (R111): both classes alternate, a lone class is given, and nothing is offered while
neither waits or a reset is asserted. In a state that keeps the laws of the traffic, a take that the arbiter gives is
made by exactly one of the three commands, which sends one message and records its class; the other two leave the part
as it is (notes/assumptions/7.md). -/
def Obligations.NorthArbiterAlternates : Prop :=
  (∀ s : State, s.rst = true ∨ s.nlrst = true → s.northChoice = none) ∧
  (∀ s : State, s.rst = false → s.nlrst = false →
    (s.candidate.isSome → s.replyOrder ≠ [] →
      s.northChoice = some (if s.lastServed = .forwarded then .synthesized else .forwarded)) ∧
    (s.candidate.isSome → s.replyOrder = [] → s.northChoice = some .forwarded) ∧
    (s.candidate = none → s.replyOrder ≠ [] → s.northChoice = some .synthesized) ∧
    (s.candidate = none → s.replyOrder = [] → s.northChoice = none)) ∧
  ∀ (s : State) (cls : ReplyClass), TrafficInv s → s.northChoice = some cls →
    ∃ c ∈ [Instr.forwarding, .timeoutReply, .owedReply],
      (∃ t m, exec c s = .next t ∧ t.northSent = s.northSent ++ [m] ∧ t.lastServed = cls) ∧
      ∀ c' ∈ [Instr.forwarding, .timeoutReply, .owedReply], c' ≠ c → exec c' s = .next s

/-- The take of a forwarded response (R98, R114 to R116): the reply under the slot's source and north tag, the slot FREE
with its generation kept, a TIMED_OUT slot's reference withdrawn, and the notice before the sample, which carries what it
took at the take. That the notice is taken with slot and candidate already released, which a FREEZE record's levels show,
is the model's inference (DEDUCED: notes/assumptions/11.md); that the sample is taken at once while no frame is in
progress, and otherwise waits in the part until the next event, is how the model lets a command fall between the two
(R147; notes/assumptions/13.md). -/
def Obligations.ForwardingAnswersTheRequester : Prop :=
  ∀ (s : State) (c : Candidate) (stage : SlotStage) (q : SlotRequest),
    let now := s.window.partTime
    let handed (r : SampleRecord) (t : State) : State :=
      if s.inFrame then { t with accounting := { t.accounting with sampleDue := some r } } else t.sample r
    s.northChoice = some .forwarded → s.candidate = some c → s.slots[c.slot].use = .busy stage q →
    (c.ok = false ∨ q.kind = .write → c.data = []) →
      exec .forwarding s = .next
        (handed { req := q, ok := c.ok, forwardingTime := now
                  windowSequence := if s.window.running then some s.window.sequence else none }
          (({ s with
            slots := setAt s.slots c.slot { generation := s.slots[c.slot].generation, use := .free }
            candidate := none
            replyOrder := if stage = .timedOut then s.replyOrder.erase (.slot c.slot) else s.replyOrder
            lastServed := .forwarded
            northSent := s.northSent ++
              [({ source := q.source, tag := q.northTag, status := if c.ok then .ok else .memerr
                  data := if c.ok = true ∧ q.kind = .read then c.data else [] } : NorthResponse).toMessage]
            alert := if c.ok then s.alert
              else { s.alert with sticky := { s.alert.sticky with memerr := true } } } : State).takeNotice
          { event := if c.ok then .complete else .memerr, stream := some q.stream
            quantity := (now - q.arrivalTime).toNat }))

/-- The take of a TIMEOUT reply (R97, R99, R117): the slot becomes ORPHANED with its fields kept, or FREE when the
candidate it holds is dropped as LATE at the same event, after the TIMEOUT notice. That the notices are taken with the
slot already ORPHANED or FREE, which a FREEZE record's slot count shows, is the model's inference (DEDUCED:
notes/assumptions/11.md). -/
def Obligations.TimeoutReplyOrphansTheSlot : Prop :=
  ∀ (s : State) (i : SlotIx) (q : SlotRequest) (d : Time),
    let u : State :=
      { s with
        replyOrder := s.replyOrder.tail
        lastServed := .synthesized
        northSent := s.northSent ++
          [({ source := q.source, tag := q.northTag, status := .timeout, data := [] } : NorthResponse).toMessage]
        alert := { s.alert with sticky := { s.alert.sticky with timeout := true } } }
    let notice : Notice := { event := .timeout, stream := some q.stream, quantity := (d - q.issueTime).toNat }
    s.northChoice = some .synthesized → s.replyOrder.head? = some (.slot i) →
    s.slots[i].use = .busy .timedOut q → q.deadline = some d →
      ((∀ c, s.candidate = some c → c.slot ≠ i) →
        exec .timeoutReply s = .next
          (({ u with
              slots := setAt s.slots i { generation := s.slots[i].generation, use := .busy .orphaned q } } :
            State).takeNotice notice)) ∧
      ∀ c, s.candidate = some c → c.slot = i →
        exec .timeoutReply s = .next
          ((({ u with
              candidate := none
              slots := setAt s.slots i { generation := s.slots[i].generation, use := .free } } :
            State).takeNotice notice).takeNotice
            { event := .late, stream := some q.stream, quantity := (s.window.partTime - q.issueTime).toNat })

/-- The take of an entry's owed reply (R80, R117): the entry and the head reference leave, the reply carries the
entry's source, north tag and reply kind, no notice is sent, and a retry follows. A sample that is due in the part is
taken first (notes/assumptions/13.md). -/
def Obligations.OwedReplyIsSentOnce : Prop :=
  ∀ (s : State) (e : PendingEntry) (k : ReplyKind),
    s.northChoice = some .synthesized → s.replyOrder.head? = some (.entry e.id) → e ∈ s.entries →
    e.state = .replyOwed k → (s.entries.map PendingEntry.id).Nodup →
      exec .owedReply s = .next
        ({ s.settleSample with
            entries := s.entries.erase e
            replyOrder := s.replyOrder.tail
            lastServed := .synthesized
            northSent := s.northSent ++
              [({ source := e.source, tag := e.northTag
                  status := match k with
                    | .refused => .refused
                    | .malformed => .malformed
                    | .aborted => .aborted
                  data := [] } : NorthResponse).toMessage] } : State).retry

/-! ### Time -/

/-- A microtick at which nothing still falls due advances part time and, while RUNNING, the position, which returns to
0 and brings a window start when it reaches the active length; the next interval takes the prescaler as it stands
(R33, R35, R37). The count of part-clock periods, the mark of a window start to come and the place of a sample, which is
taken first, are the model's own (notes/assumptions/5.md, 8.md and 13.md). -/
def Obligations.MicrotickAdvancesPartTimeAndPosition : Prop :=
  ∀ s : State,
    let w := s.window
    let reached := w.running && decide (w.position + 1 = w.active.length)
    s.rst = false → w.startDue = false →
    (∀ c : ChannelIx, w.openDue c = false ∧ w.closeDue c = false) →
    (∀ i : SlotIx, s.slots[i].expiresAt w.partTime = false) →
      exec .microtick s = .next
        { s.settleSample with
          window := { w with
            partTime := w.partTime + 1
            partClocks := w.partClocks + w.interval
            interval := w.prescaler
            position := if w.running then (if reached then 0 else w.position + 1) else w.position
            startDue := reached } }

/-- What falls at the microtick now standing is taken before part time moves on, whether or not its own command has
come: a command of time before a microtick changes nothing of what the microtick leaves, and no slot's deadline passes
unmet (the model's choice: notes/assumptions/5.md). -/
def Obligations.MicrotickTakesWhatIsDue : Prop :=
  (∀ (c : Instr) (s t : State),
    c = .expiry ∨ c = .windowStartEvent ∨ (∃ ch, c = .phaseOpen ch ∨ c = .phaseClose ch) →
    exec c s = .next t → exec .microtick t = exec .microtick s) ∧
  ∀ s t : State, s.rst = false → exec .microtick s = .next t →
    t.window.partTime = s.window.partTime + 1 ∧
      ∀ (i : SlotIx) (q : SlotRequest), t.slots[i].use = .busy .issued q →
        s.slots[i].use = .busy .issued q ∧ q.deadline ≠ some s.window.partTime

/-- EXPIRY (R93): every ISSUED slot whose deadline is part time becomes TIMED_OUT with all else kept, and the
references join the reply order list in increasing order of slot index. A sample that is due in the part is taken
first, when there is a slot to expire (notes/assumptions/13.md). -/
def Obligations.ExpiryTimesOutEverySlotDue : Prop :=
  ∀ s : State, s.rst = false →
    ∃ (t : State) (due : List SlotIx), exec .expiry s = .next t ∧
      t = { s with
        slots := t.slots
        replyOrder := s.replyOrder ++ due.map Ref.slot
        accounting := if due = [] then s.accounting else s.settleSample.accounting } ∧
      due.Pairwise (· < ·) ∧
      (∀ i : SlotIx, i ∈ due ↔ ∃ q, s.slots[i].use = .busy .issued q ∧ q.deadline = some s.window.partTime) ∧
      (∀ (i : SlotIx) (q : SlotRequest), i ∈ due → s.slots[i].use = .busy .issued q →
        t.slots[i] = { generation := s.slots[i].generation, use := .busy .timedOut q }) ∧
      ∀ i : SlotIx, i ∉ due → t.slots[i] = s.slots[i]

/-- A window start (R38 to R40, R44): the window generator's steps and the stream table's work on every stream, and
then, when it ends a running window, the report of that window as it stood before them. The position brings one while
RUNNING; WINDOW START, always taken, brings one from STOPPED, without a report, or while RUNNING, with one. -/
def Obligations.WindowStartBeginsAWindow : Prop :=
  ∀ s : State,
    let begun (due : Bool) : State :=
      { s with
        window := { s.window with
          running := true
          sequence := s.window.sequence + 1
          active := s.window.staged
          position := 0
          phaseOpen := mapAll (fun ch : Channel => decide (ch.offset = 0 ∧ 0 < ch.width)) s.window.staged.channels
          startDue := due }
        streams := mapAll StreamEntry.windowStart s.streams }
    (s.rst = false → s.window.running = true → s.window.startDue = true →
      exec .windowStartEvent s = .next ((begun false).takeReport s.windowReport)) ∧
    (s.inFrame = true → s.accounting.sampleDue = none →
      (s.window.running = false → exec .windowStart s = .next ((begun s.window.startDue).answered 0x21 .ok [])) ∧
      (s.window.running = true →
        exec .windowStart s =
          .next (((begun s.window.startDue).takeReport s.windowReport).answered 0x21 .ok [])))

/-- What a window start does to one stream (R58 to R60): a valid stream's staged set becomes active, its balance is
clamped to the new ceiling and, under a budget, replenished up to it; a stream that is not valid is left as it is.
Both commands that make a window start do this to every stream. -/
def Obligations.WindowStartAppliesStagedAndReplenishes : Prop :=
  (∀ e : StreamEntry, e.valid = true →
    e.windowStart =
      { e with
        active := e.staged
        balance :=
          if e.staged.budgetEnable then min (min e.balance e.staged.ceiling + e.staged.allotment) e.staged.ceiling
          else min e.balance e.staged.ceiling }) ∧
  (∀ e : StreamEntry, e.valid = false → e.windowStart = e) ∧
  ∀ (s t : State) (c : Instr),
    (c = .windowStart ∧ s.inFrame = true) ∨
      (c = .windowStartEvent ∧ s.rst = false ∧ s.window.running = true ∧ s.window.startDue = true) →
    exec c s = .next t → ∀ i : StreamIx, t.streams[i] = s.streams[i].windowStart

/-- The window report (R39): the closing window's number, the three levels of every stream index, their totals over
all indices, and the balances before the window start works on them, 0 for a stream that is not valid. -/
def Obligations.WindowReportGivesLevelsAndTotals : Prop :=
  ∀ s : State,
    let r := s.windowReport
    r.number = s.window.sequence ∧
      (∀ i : StreamIx,
        r.waiting[i] = (s.entries.filter fun e => e.state = .waiting ∧ e.stream = i).length ∧
        r.pool[i] =
          ((s.entries.filter fun e => e.state = .waiting ∧ e.kind = .write ∧ e.stream = i).map
            fun e => e.beats.toNat).sum ∧
        r.slots[i] = ((List.finRange 64).filter fun j : SlotIx => s.slots[j].carries i).length ∧
        r.balances[i] = if s.streams[i].valid then s.streams[i].balance else 0) ∧
      r.waitingTotal = r.waiting.toList.sum ∧ r.poolTotal = r.pool.toList.sum ∧ r.slotsTotal = r.slots.toList.sum

/-- A phase open or close that the position has reached changes the channel's phase state and nothing more, and one
that it has not reached changes nothing (R37, R41; the second half is notes/assumptions/7.md). A sample that is due in
the part is taken first (notes/assumptions/13.md). -/
def Obligations.PhaseEventsFollowThePosition : Prop :=
  ∀ (s : State) (c : ChannelIx),
    let w := s.window
    let ch := w.active.channels[c]
    let opens := w.running = true ∧ w.phaseOpen[c] = false ∧ w.position = ch.offset ∧ 1 ≤ ch.offset ∧
      ch.offset < w.active.length ∧ 0 < ch.width
    let closes := w.running = true ∧ w.phaseOpen[c] = true ∧ w.position = ch.offset + ch.width ∧
      ch.offset + ch.width < w.active.length
    s.rst = false →
      (opens → exec (.phaseOpen c) s =
        .next { s.settleSample with window := { w with phaseOpen := setAt w.phaseOpen c true } }) ∧
      (closes → exec (.phaseClose c) s =
        .next { s.settleSample with window := { w with phaseOpen := setAt w.phaseOpen c false } }) ∧
      (¬ opens → exec (.phaseOpen c) s = .next s) ∧ (¬ closes → exec (.phaseClose c) s = .next s)

/-! ### Resets -/

/-- The edges of NLRST_N (R14, R83, R103, R118): an assertion empties the list and the reply order list, orphans the
slots in flight, drops a held candidate as LATE and sets LINK_RESET; a release lets the port accept; neither has an
effect twice. That the LATE notice is taken with the list empty and the slots orphaned, which a FREEZE record's levels
show, is the model's inference (DEDUCED: notes/assumptions/11.md); that it is counted like every other notice, and may
freeze, capture and clear counters and histogram, beside R138, R148, R158 and R162, is the model's choice (DESIGN
CHOICE: notes/assumptions/15.md); an edge that repeats, or falls while RST_N is asserted, is notes/assumptions/7.md. A
sample that is due in the part is taken first (notes/assumptions/13.md). -/
def Obligations.LinkResetEdges : Prop :=
  (∀ s : State,
    let u : State :=
      { s.settleSample with
        nlrst := true
        port := .linkReset
        entries := []
        replyOrder := []
        lastServed := .synthesized
        slots := mapAll
          (fun t : Slot => match t.use with
            | .free => t
            | .busy _ q => { generation := t.generation, use := .busy .orphaned q }) s.slots
        alert := { s.alert with sticky := { s.alert.sticky with linkReset := true } } }
    s.rst = false → s.nlrst = false →
      (s.candidate = none → exec .nlrstAssert s = .next u) ∧
      ∀ c stage q, s.candidate = some c → s.slots[c.slot].use = .busy stage q →
        exec .nlrstAssert s = .next
          (({ u with
              candidate := none
              slots := setAt u.slots c.slot { generation := s.slots[c.slot].generation, use := .free } } :
            State).takeNotice
            { event := .late, stream := some q.stream, quantity := (s.window.partTime - q.issueTime).toNat })) ∧
  (∀ s : State, s.rst = false → s.nlrst = true →
    exec .nlrstRelease s = .next { s.settleSample with nlrst := false, port := .accepting }) ∧
  ∀ s : State,
    (s.nlrst = true → exec .nlrstAssert s = .next s) ∧ (s.nlrst = false → exec .nlrstRelease s = .next s) ∧
    (s.rst = true → s.nlrst = false → exec .nlrstAssert s = .next { s with nlrst := true }) ∧
    (s.rst = true → s.nlrst = true → exec .nlrstRelease s = .next { s with nlrst := false })

/-- The assertion of RST_N (R15, R163): ALERT_N is released, no transfer and no event of time has an effect any more,
and a frame that ends has none either; MISO carries ones in a frame in progress and in one that begins then. That the
receive state is idle from the assertion on is the model's choice (DESIGN CHOICE: notes/assumptions/12.md), and that a
command without an effect leaves the part as it is, is its reading (DEDUCED: notes/assumptions/7.md and 9.md). -/
def Obligations.ResetAssertionSilencesThePart : Prop :=
  ∀ s : State, s.rst = false →
    ∃ t, exec .rstAssert s = .next t ∧ t.rst = true ∧ t.alertLow = false ∧ t.mgmt.rx = .idle ∧
      (∀ c : Instr,
        (∃ m, c = .arrival m ∨ c = .southResponseIntake m) ∨ (∃ ch, c = .phaseOpen ch ∨ c = .phaseClose ch) ∨
          c ∈ [Instr.issue, .forwarding, .timeoutReply, .owedReply, .microtick, .expiry, .windowStartEvent] →
        exec c t = .next t) ∧
      (∀ k, t.misoBit k = if s.mgmt.selected then some true else none) ∧
      (∀ c : Instr, isCommand c = true ∨ c = .frameIgnored ∨ (∃ bits, c = .frameError bits ∨ c = .nop bits) →
        exec c t = .next { t with mgmt := { t.mgmt with selected := false } }) ∧
      (t.mgmt.selected = false → ∃ u, exec .selFallingEdge t = .next u ∧ ∀ k, u.misoBit k = some true)

/-- The release of RST_N (R15): every block holds its power-on values, by TABLES 12, 20, 29, 35, 66 and 74 and by R85,
R105, R119, R158, R162 and R169; the count of part-clock periods begins again, with the first interval at the
prescaler's 100 (R33, R47). The levels of the pins, and the model's own records, stay. The count of periods, the mark
of a window start to come and the place of a sample are the model's own (notes/assumptions/8.md, 5.md and 13.md). -/
def Obligations.ResetReleaseGivesPowerOnValues : Prop :=
  ∀ s : State, s.rst = true →
    ∃ t, exec .rstRelease s = .next t ∧
      t.rst = false ∧ t.nlrst = s.nlrst ∧ t.port = (if s.nlrst then .linkReset else .accepting) ∧
      (∀ i : StreamIx, t.streams[i] =
        { valid := decide (i = 0)
          fields := { sourceLow := 0, sourceHigh := 63, pageBase := 0, pageLimit := 268435455#28
                      kinds := { read := true, write := true } }
          rank := 0, holdLimit := 32, policy := .stall, paused := false
          active := { budgetEnable := false, allotment := 0, ceiling := 4096, phaseBinding := none }
          staged := { budgetEnable := false, allotment := 0, ceiling := 4096, phaseBinding := none }
          balance := 0 }) ∧
      t.entries = [] ∧ (∀ i : SlotIx, t.slots[i] = { generation := 0, use := .free }) ∧ t.timeout = 0 ∧
      t.candidate = none ∧ t.replyOrder = [] ∧ t.lastServed = .synthesized ∧
      (t.window.prescaler = 100 ∧ t.window.interval = 100 ∧ t.window.partClocks = 0 ∧ t.window.startDue = false ∧
        t.window.partTime = 0 ∧ t.window.running = false ∧ t.window.position = 0 ∧
        t.window.sequence = 0 ∧ t.window.active.length = 1000 ∧ t.window.staged = t.window.active ∧
        ∀ c : ChannelIx, t.window.active.channels[c] = { offset := 0, width := 0 } ∧
          t.window.phaseOpen[c] = false) ∧
      (t.accounting.state = .counting ∧ t.accounting.sampleDue = none ∧
        ∀ i : CounterIx, t.accounting.counters[i] =
          { config := { enable := false, event := .arrive, filter := none, threshold := 0, test := .atLeast
                        accumulate := .count, edge := false, freezeOnOverflow := false }
            value := 0, overflow := false, edgeMemory := false }) ∧
      (t.accounting.histogram.config =
          { latencyKind := .total, filter := none, includeMemerr := false
            boundaries := #v[1, 2, 4, 8, 16, 32, 64], keepAddress := false } ∧
        (∀ i : Fin 8, t.accounting.histogram.bins[i] = { count := 0, saturated := false }) ∧
        t.accounting.histogram.worst = none) ∧
      t.capture =
        { records := []
          options := { includeHistogram := false, includeBalances := false, clearCounters := false
                       clearHistogram := false, captureOnFreeze := false }
          period := 0, periodicCount := 0, number := 0, missed := 0 } ∧
      (∀ k : Cause, t.causePending k = false ∧ t.causeEnabled k = false) ∧
      t.mgmt.held = { status := .fresh, echo := 0, sequence := 0, data := [] } ∧ t.mgmt.sequence = 0 ∧
      t.mgmt.rx = .idle ∧ t.mgmt.selected = s.mgmt.selected ∧
      t.northSent = s.northSent ∧ t.southSent = s.southSent

/-! ### The management port -/

/-- A frame begins (R163, R168): nothing but the frame's own state changes, and MISO carries the held response, byte
by byte with the most significant bit first, and bytes of 0xFF after it. While RST_N is asserted it carries ones, and
there is no falling edge while SEL_N is low. -/
def Obligations.FrameShowsTheHeldResponse : Prop :=
  ∀ s : State,
    (s.mgmt.selected = true → exec .selFallingEdge s = .next s) ∧
    (s.mgmt.selected = false →
      ∃ t, exec .selFallingEdge s = .next t ∧
        t = { s with mgmt := { s.mgmt with selected := true, rx := t.mgmt.rx, miso := t.mgmt.miso } } ∧
        (s.rst = true → t.mgmt.rx = .idle ∧ ∀ k, t.misoBit k = some true) ∧
        (s.rst = false → t.mgmt.rx = .receiving RxBuffer.empty ∧
          let h := s.mgmt.held
          let front := [h.status.code, h.echo, h.sequence, BitVec.ofNat 8 h.data.length] ++ h.data
          let sent := front ++ [crc8 front]
          sent.length = 5 + h.data.length ∧
            ∀ n k, k < 8 →
              (∀ b, sent[n]? = some b → t.misoBit (8 * n + k) = some (b.getLsbD (7 - k))) ∧
              (sent.length ≤ n → t.misoBit (8 * n + k) = some true)))

/-- A NOP frame (R165): a frame whose first byte is 0x00 is a NOP whatever follows, at its end nothing happens but
that no frame is in progress, and the next frame reads the same held response. A sample that is due in the part is
taken first: the end of a NOP frame is no command that could fall before it (notes/assumptions/13.md). -/
def Obligations.NopFrameChangesNothing : Prop :=
  (∀ filler : List Byte, judgeFrame (0x00 :: filler) = .nop ∧
    judgeBits (List.replicate 8 false ++ filler.flatMap bitsOf) = .nop) ∧
    ∀ (bits : List Bool) (s : State),
      exec (.nop bits) s = .next { s.settleSample with mgmt := { s.mgmt with selected := false, rx := .idle } } ∧
        (s.accounting.sampleDue = none → s.settleSample = s) ∧
        ∀ t u, s.rst = false → exec (.nop bits) s = .next t → exec .selFallingEdge t = .next u →
          u.mgmt.miso = .response s.mgmt.held.bytes ∧ u.mgmt.held = s.mgmt.held ∧ u.mgmt.sequence = s.mgmt.sequence

/-- Frames that no owner sees (TABLE 80, lines 1 and 3 to 6): one without a completed byte is ignored; one judged in
error executes nothing, advances the sequence, holds the error with the code byte received, and sets FRAME. A sample
that is due in the part is taken first: these ends of a frame hand over no command that could fall before it
(notes/assumptions/13.md). -/
def Obligations.IgnoredAndFailedFrames : Prop :=
  (∀ bits : List Bool, judgeBits bits = .ignored ↔ bits.length < 8) ∧
  (∀ s : State,
    exec .frameIgnored s = .next { s.settleSample with mgmt := { s.mgmt with selected := false, rx := .idle } } ∧
      (s.accounting.sampleDue = none → s.settleSample = s)) ∧
    ∀ (bits : List Bool) (s : State) (code : Byte) (e : FrameError),
      s.rst = false → s.mgmt.rx = .receiving RxBuffer.empty → judgeBits bits = .error code e →
        exec (.frameError bits) s = .next
          { s.settleSample with
            mgmt := { s.mgmt with
              selected := false
              rx := .idle
              sequence := s.mgmt.sequence + 1
              held :=
                { status := match e with
                    | .unknownCmd => .unknownCmd
                    | .shortFrame => .shortFrame
                    | .longFrame => .longFrame
                    | .crcError => .crcError
                  echo := code, sequence := s.mgmt.sequence + 1, data := [] } }
            alert := { s.alert with sticky := { s.alert.sticky with frame := true } } }

/-- The frame-end judgement, line by line of TABLE 80 (R166), on the completed bytes of a whole frame: the bits
sampled make bytes, most significant bit first, each eighth bit completing one, and those of a last byte left
incomplete are discarded (R163). -/
def Obligations.FrameJudgementFollowsTable80 : Prop :=
  (∀ (bytes : List Byte) (tail : List Bool), tail.length < 8 →
    judgeBits ((bytes.flatMap fun b => [b.getLsbD 7, b.getLsbD 6, b.getLsbD 5, b.getLsbD 4, b.getLsbD 3, b.getLsbD 2,
      b.getLsbD 1, b.getLsbD 0]) ++ tail) = judgeFrame bytes) ∧
  judgeFrame [] = .ignored ∧
    ∀ (code : Byte) (rest : List Byte),
      (code = 0x00 → judgeFrame (code :: rest) = .nop) ∧
      (code ≠ 0x00 →
        (argBytes code = none → judgeFrame (code :: rest) = .error code .unknownCmd) ∧
        ∀ a, argBytes code = some a →
          (rest.length < a + 1 → judgeFrame (code :: rest) = .error code .shortFrame) ∧
          (a + 1 < rest.length → judgeFrame (code :: rest) = .error code .longFrame) ∧
          ∀ args crc, rest = args ++ [crc] → args.length = a →
            (crc ≠ crc8 (code :: args) → judgeFrame (code :: rest) = .error code .crcError) ∧
            (crc = crc8 (code :: args) →
              ∃ c, decodeCommand code args = some c ∧ judgeFrame (code :: rest) = .command c))

/-- Every command of TABLE 86, with every value of every argument field, is read back from the frame that carries it,
and no bit of the frame is dropped. -/
def Obligations.EncodedFramesDecode : Prop :=
  ∀ (c : Instr) (bytes : List Byte), encodeFrame c = some bytes → judgeFrame bytes = .command c

/-- CRC-8 as R178 forms it: the register from 0xFF, a byte XORed in, eight shifts each with 0x07 XORed in when the
dropped bit was 1; the frame's CRC byte is compared with it, the held response ends with it, and a NOP frame is not
checked. -/
def Obligations.CrcIsFormedAndApplied : Prop :=
  crc8 [] = 0xFF ∧
    (∀ (bs : List Byte) (b : Byte), crc8 (bs ++ [b]) = (crcShift^[8]) (crc8 bs ^^^ b)) ∧
    (∀ reg : Byte, (crcShift reg).toNat =
      if 128 ≤ reg.toNat then (2 * reg.toNat - 256) ^^^ 7 else 2 * reg.toNat) ∧
    (∀ (code : Byte) (args : List Byte) (crc : Byte), code ≠ 0x00 → argBytes code = some args.length →
      (judgeFrame (code :: args ++ [crc]) = .error code .crcError ↔ crc ≠ crc8 (code :: args))) ∧
    (∀ h : HeldResponse, ∃ front, h.bytes = front ++ [crc8 front] ∧
      front = [h.status.code, h.echo, h.sequence, BitVec.ofNat 8 h.data.length] ++ h.data) ∧
    ∀ filler : List Byte, judgeFrame (0x00 :: filler) = .nop

/-- The header words of TABLE 85: each field at its bits, in what the part sends and in what it takes; what is sent is
read back field for field with the unassigned bits 0, and a taken header is read from its assigned bits alone. -/
def Obligations.LinkHeadersKeepTheirFields : Prop :=
  (∀ r : Request, Request.ofMessage r.toMessage = r ∧ r.toMessage.header.toNat < 2 ^ 60 ∧
    (r.toMessage.header.extractLsb' 0 1 = match r.kind with | .read => 0 | .write => 1) ∧
    r.toMessage.header.extractLsb' 1 6 = r.source ∧ r.toMessage.header.extractLsb' 7 8 = r.tag ∧
    r.toMessage.header.extractLsb' 15 5 = r.beats ∧ r.toMessage.header.extractLsb' 20 40 = r.address ∧
    r.toMessage.data = r.data) ∧
  (∀ r : SouthResponse, SouthResponse.ofMessage r.toMessage = r ∧ r.toMessage.header.toNat < 2 ^ 15 ∧
    r.toMessage.header.extractLsb' 0 6 = r.source ∧ r.toMessage.header.extractLsb' 6 8 = r.tag ∧
    (r.toMessage.header.extractLsb' 14 1 = match r.status with | .ok => 0 | .error => 1) ∧
    r.toMessage.data = r.data) ∧
  (∀ r : NorthResponse,
    r.toMessage.header.extractLsb' 0 6 = r.source ∧ r.toMessage.header.extractLsb' 6 8 = r.tag ∧
      ((r.toMessage.header.extractLsb' 14 3).toNat = match r.status with
        | .ok => 0 | .memerr => 1 | .timeout => 2 | .refused => 3 | .malformed => 4 | .aborted => 5) ∧
      r.toMessage.header.toNat < 2 ^ 17 ∧ r.toMessage.data = r.data) ∧
  (∀ m : LinkMessage,
    Request.ofMessage m =
      { kind := if m.header.extractLsb' 0 1 = 1 then .write else .read
        source := m.header.extractLsb' 1 6, tag := m.header.extractLsb' 7 8, beats := m.header.extractLsb' 15 5
        address := m.header.extractLsb' 20 40, data := m.data } ∧
    SouthResponse.ofMessage m =
      { source := m.header.extractLsb' 0 6, tag := m.header.extractLsb' 6 8
        status := if m.header.extractLsb' 14 1 = 1 then .error else .ok, data := m.data }) ∧
  (∀ m n : LinkMessage, m.data = n.data → (∀ k, k < 60 → m.header.getLsbD k = n.header.getLsbD k) →
    Request.ofMessage m = Request.ofMessage n) ∧
  ∀ m n : LinkMessage, m.data = n.data → (∀ k, k < 15 → m.header.getLsbD k = n.header.getLsbD k) →
    SouthResponse.ofMessage m = SouthResponse.ofMessage n

/-- Every command frame that the port has received is answered at its end (R167, R170): the sequence advances, the
held response carries it with the code and at most 64 data bytes, and a status other than OK changes nothing else. A
frame that the port has not received ends with no effect (R163). While a sample is due, the commands that reach the
accounting unit as R147 and TABLE 73 say, with WINDOW START and its report, are taken after the sample or before it,
each whole: which of the two is a free value, and nothing is claimed of it. Every other command finds the sample taken
(R112). That these are the commands, and the place of the sample, are the model's (DESIGN CHOICE:
notes/assumptions/13.md). -/
def Obligations.EveryCommandFrameIsAnswered : Prop :=
  ∀ (c : Instr) (code : Byte) (args : List Byte) (s : State), commandBytes c = some (code :: args) →
    (s.inFrame = true →
      ∃ t st data, exec c s = .next t ∧
        t.mgmt = { s.mgmt with
          selected := false
          rx := .idle
          sequence := s.mgmt.sequence + 1
          held := { status := st, echo := code, sequence := s.mgmt.sequence + 1, data := data } } ∧
        data.length ≤ 64 ∧ st ∈ [Status.ok, .busy, .badArg, .badIndex, .state, .empty] ∧
        (st ≠ .ok → data = [] ∧ (s.accounting.sampleDue = none → t = { s with mgmt := t.mgmt }))) ∧
    (∀ r : SampleRecord, s.inFrame = true → s.accounting.sampleDue = some r →
      let u : State := { s with accounting := { s.accounting with sampleDue := none }, freeDrawn := s.freeDrawn + 1 }
      let between := c ∈ [Instr.windowStart, .freeze, .unfreeze, .histogramClear, .captureNow] ∨
        (∃ a, c = .histogramSet a) ∨ ∃ part, c = .histogramRead part
      (¬ between → exec c s = exec c s.settleSample) ∧
      (between →
        (Config.commandFirst s.freeDrawn = false → exec c s = exec c (u.sample r)) ∧
        (Config.commandFirst s.freeDrawn = true →
          ∃ t, exec c u = .next t ∧ exec c s = .next (t.sample r)))) ∧
    (s.inFrame = false → exec c s = .next { s with mgmt := { s.mgmt with selected := false, rx := .idle } })

/-! ### Reads and settings

From here on the statements of commands are of a state with no sample due; EveryCommandFrameIsAnswered says of every
command what it does while one is. -/

/-- The reading commands change nothing but the answer, whose data has the count of TABLE 86 and the fields of TABLE
88, in its order and with the codes of TABLE 87 (R31, R46, R106, R137, R146, R156, R161, R171, R175 to R177), and they
turn away an index or part out of range and an empty queue. That the bits which the tables do not name in a byte of
flags are 0 is the model's choice (DESIGN CHOICE: notes/assumptions/16.md). -/
def Obligations.ReadCommandsOnlyAnswer : Prop :=
  ∀ s : State, s.inFrame = true → s.accounting.sampleDue = none →
    let answers (c : Instr) (code : Byte) (n : Nat) (layout : List (Nat × Nat)) : Prop :=
      ∃ d, exec c s = .next (s.answered code .ok d) ∧ d.length = n ∧ readsAs d layout
    let turnsAway (c : Instr) (code : Byte) (status : Status) : Prop := exec c s = .next (s.answered code status [])
    answers .readStatus 0x01 20 (statusLayout s) ∧
    answers .windowRead 0x23 50 (windowLayout s.window) ∧
    answers .alertRead 0x70 2 [(1, causeSet s.causePending), (1, s.alert.enabled.toNat)] ∧
    (∀ (b : Byte) (i : StreamIx), b.toNat = i.val → answers (.streamRead b) 0x11 48 (streamLayout s i)) ∧
    (∀ b : Byte, 16 ≤ b.toNat → turnsAway (.streamRead b) 0x11 .badIndex) ∧
    (∀ (b : Byte) (i : SlotIx), b.toNat = i.val → answers (.slotRead b) 0x31 30 (slotLayout s i)) ∧
    (∀ b : Byte, 64 ≤ b.toNat → turnsAway (.slotRead b) 0x31 .badIndex) ∧
    (∀ (b : Byte) (i : CounterIx), b.toNat = i.val →
      answers (.counterRead b) 0x42 15 (counterLayout s.accounting i)) ∧
    answers (.counterRead 0xFF) 0x42 43 (countersLayout s.accounting) ∧
    (∀ b : Byte, 8 ≤ b.toNat → b ≠ 0xFF → turnsAway (.counterRead b) 0x42 .badIndex) ∧
    answers (.histogramRead 0) 0x51 24 (histogramLayout s.accounting.histogram.config) ∧
    answers (.histogramRead 1) 0x51 35
      (accountingFields s.accounting.state ++ binsLayout s.accounting.histogram.bins) ∧
    answers (.histogramRead 2) 0x51 (if s.accounting.histogram.worst = none then 1 else 21)
      (worstLayout s.accounting.histogram.worst) ∧
    (∀ b : Byte, 3 ≤ b.toNat → turnsAway (.histogramRead b) 0x51 .badArg) ∧
    (∀ (b : Byte) (p : Fin 4) (r : CaptureRecord), b.toNat = p.val → s.capture.records.head? = some r →
      answers (.captureRead b) 0x62
        (match p with
          | 0 => 21
          | 1 => 40
          | 2 => if r.histogram = none then 0 else 33
          | 3 => if r.balances = none then 0 else 64)
        (captureLayout r p)) ∧
    (∀ b : Byte, b.toNat ≤ 3 → s.capture.records = [] → turnsAway (.captureRead b) 0x62 .empty) ∧
    ∀ b : Byte, 4 ≤ b.toNat → turnsAway (.captureRead b) 0x62 .badArg

/-- TICK SET, WINDOW SET and TIMEOUT SET (R34, R43, R92): a value in range becomes the prescaler, the whole staged set
of window settings, or T, and nothing else changes, the interval in progress included; one out of range gives BAD_ARG.
-/
def Obligations.SettingCommandsSetOneSetting : Prop :=
  ∀ s : State, s.inFrame = true → s.accounting.sampleDue = none →
    (∀ p : BitVec 16,
      (1 ≤ p.toNat → p.toNat ≤ 1023 →
        exec (.tickSet p) s =
          .next (({ s with window := { s.window with prescaler := p.toNat } } : State).answered 0x03 .ok [])) ∧
      (p.toNat = 0 ∨ 1023 < p.toNat → exec (.tickSet p) s = .next (s.answered 0x03 .badArg []))) ∧
    (∀ a : WindowSetArgs,
      (16 ≤ a.length.toNat → ∃ set : WindowSettings,
        exec (.windowSet a) s =
          .next (({ s with window := { s.window with staged := set } } : State).answered 0x20 .ok []) ∧
        set.length = a.length.toNat ∧
        ∀ c : ChannelIx, set.channels[c] =
          { offset := a.channels[c].offset.toNat, width := a.channels[c].width.toNat }) ∧
      (a.length.toNat < 16 → exec (.windowSet a) s = .next (s.answered 0x20 .badArg []))) ∧
    ∀ v : BitVec 24,
      (v.toNat ≤ 1048575 →
        exec (.timeoutSet v) s = .next (({ s with timeout := v.toNat } : State).answered 0x30 .ok [])) ∧
      (1048575 < v.toNat → exec (.timeoutSet v) s = .next (s.answered 0x30 .badArg []))

/-! ### Stream commands -/

/-- STREAM WRITE that passes its checks (R26, R27, R61, R64): a valid stream takes the match part and stages the
regulation set, a stream that is not valid becomes valid under it with its balance set; the paused flag is kept, the
match fields of index 0 are not written, and a retry follows. -/
def Obligations.StreamWriteTakesOrStages : Prop :=
  ∀ (a : StreamWriteArgs) (i : StreamIx) (s : State),
    let old := s.streams[i]
    s.inFrame = true → s.accounting.sampleDue = none → a.index.toNat = i.val → streamWriteAccepted a →
      ∃ e : StreamEntry, ∃ reg : Regulation,
        exec (.streamWrite a) s =
          .next (({ s with streams := setAt s.streams i e } : State).retry.answered 0x10 .ok []) ∧
        e.valid = true ∧ e.rank.val = a.rank.toNat ∧ e.holdLimit = a.holdLimit.toNat ∧
        e.policy = (if a.policy = 0 then .stall else .refuse) ∧ e.paused = old.paused ∧
        (i = 0 → e.fields = old.fields) ∧
        (i ≠ 0 → e.fields.sourceLow.toNat = a.sourceLow.toNat ∧ e.fields.sourceHigh.toNat = a.sourceHigh.toNat ∧
          e.fields.pageBase.toNat = a.pageBase.toNat ∧ e.fields.pageLimit.toNat = a.pageLimit.toNat ∧
          e.fields.kinds.read = a.kinds.getLsbD 0 ∧ e.fields.kinds.write = a.kinds.getLsbD 1) ∧
        (reg.budgetEnable = a.budgetEnable.getLsbD 0 ∧ reg.allotment = a.allotment.toNat ∧
          reg.ceiling = a.ceiling.toNat ∧ (a.phaseBinding = 0xFF → reg.phaseBinding = none) ∧
          ∀ c : ChannelIx, a.phaseBinding.toNat = c.val → reg.phaseBinding = some c) ∧
        e.staged = reg ∧
        (old.valid = true → e.active = old.active ∧ e.balance = old.balance) ∧
        (old.valid = false → e.active = reg ∧
          e.balance = if reg.budgetEnable then (min reg.allotment reg.ceiling : Int) else 0)

/-- STREAM WRITE turned away (R25): BAD_INDEX before any other check, BAD_ARG for any one argument that TABLE 18
refuses; nothing but the answer changes. -/
def Obligations.StreamWriteIsJudgedFirst : Prop :=
  ∀ (a : StreamWriteArgs) (s : State), s.inFrame = true → s.accounting.sampleDue = none →
    (16 ≤ a.index.toNat → exec (.streamWrite a) s = .next (s.answered 0x10 .badIndex [])) ∧
    (a.index.toNat < 16 → ¬ streamWriteAccepted a → exec (.streamWrite a) s = .next (s.answered 0x10 .badArg []))

/-- STREAM DELETE (R28, R29): BAD_INDEX, BUSY while the stream has a WAITING entry, and otherwise the stream is not
valid with its regulation part at the power-on values and its match fields kept, an entry already not valid stays as
it is, and a retry follows. -/
def Obligations.StreamDeleteEndsTheStream : Prop :=
  ∀ (b : Byte) (s : State), s.inFrame = true → s.accounting.sampleDue = none →
    (b = 0 ∨ 16 ≤ b.toNat → exec (.streamDelete b) s = .next (s.answered 0x12 .badIndex [])) ∧
    ∀ i : StreamIx, b.toNat = i.val → i ≠ 0 →
      (s.waitingCount i ≠ 0 → exec (.streamDelete b) s = .next (s.answered 0x12 .busy [])) ∧
      (s.waitingCount i = 0 → s.streams[i].valid = true →
        exec (.streamDelete b) s = .next
          (({ s with
              streams := setAt s.streams i
                { s.streams[i] with
                  valid := false
                  active := { budgetEnable := false, allotment := 0, ceiling := 4096, phaseBinding := none }
                  staged := { budgetEnable := false, allotment := 0, ceiling := 4096, phaseBinding := none }
                  balance := 0 } } : State).retry.answered 0x12 .ok [])) ∧
      (s.waitingCount i = 0 → s.streams[i].valid = false →
        exec (.streamDelete b) s = .next (s.retry.answered 0x12 .ok []))

/-- STREAM PAUSE and STREAM RESUME (R30): the flag of any index 0..15, and nothing else; no attempt is made. -/
def Obligations.PauseAndResumeSetTheFlag : Prop :=
  ∀ (b : Byte) (s : State), s.inFrame = true → s.accounting.sampleDue = none →
    (∀ i : StreamIx, b.toNat = i.val →
      exec (.streamPause b) s = .next
        (({ s with streams := setAt s.streams i { s.streams[i] with paused := true } } : State).answered 0x13 .ok []) ∧
      exec (.streamResume b) s = .next
        (({ s with streams := setAt s.streams i { s.streams[i] with paused := false } } : State).answered 0x14 .ok
          []) ∧
      (s.streams[i].paused = true → exec (.streamPause b) s = .next (s.answered 0x13 .ok [])) ∧
      (s.streams[i].paused = false → exec (.streamResume b) s = .next (s.answered 0x14 .ok []))) ∧
    (16 ≤ b.toNat →
      exec (.streamPause b) s = .next (s.answered 0x13 .badIndex []) ∧
      exec (.streamResume b) s = .next (s.answered 0x14 .badIndex []))

/-- STREAM PURGE (R81): every WAITING entry of the stream becomes REPLY_OWED ABORTED in its place, without its data,
with its reference and notice in list order; the levels follow, the number converted is answered, and a retry follows
when it is not 0. That every entry is converted before the first notice is taken, which a FREEZE record's levels show,
is the model's inference (DEDUCED: notes/assumptions/11.md). -/
def Obligations.StreamPurgeAbortsTheStream : Prop :=
  ∀ (b : Byte) (s : State), s.inFrame = true → s.accounting.sampleDue = none →
    (16 ≤ b.toNat → exec (.streamPurge b) s = .next (s.answered 0x15 .badIndex [])) ∧
    ∀ i : StreamIx, b.toNat = i.val →
      let l := s.entries.filter fun e => e.state = .waiting ∧ e.stream = i
      (l = [] → exec (.streamPurge b) s = .next (s.answered 0x15 .ok [0])) ∧
      (l ≠ [] → ∃ u : State,
        exec (.streamPurge b) s = .next (u.retry.answered 0x15 .ok [BitVec.ofNat 8 l.length]) ∧
        u = ({ s with
            entries := s.entries.map fun e =>
              if e.state = .waiting ∧ e.stream = i then { e with state := .replyOwed .aborted, data := [] } else e
            replyOrder := s.replyOrder ++ l.map fun e => Ref.entry e.id } : State).emit
          (l.map fun e => { event := .aborted, stream := some i, quantity := 16 * e.beats.toNat }) ∧
        u.waitingCount i = 0 ∧ u.owedCount i = s.owedCount i + l.length ∧
        u.poolInUse + s.poolHeld i = s.poolInUse)

/-! ### Window, slot, counter and histogram commands -/

/-- WINDOW STOP (R45): the window ends without a window start and without a report, at position 0 with every channel
CLOSED; sequence, settings, part time and balances stay; while STOPPED nothing changes. That a window start which the
position has already brought is given up with the window is notes/assumptions/5.md. -/
def Obligations.WindowStopEndsTheWindow : Prop :=
  ∀ s : State, s.inFrame = true → s.accounting.sampleDue = none →
    (s.window.running = true →
      exec .windowStop s = .next
        (({ s with
            window := { s.window with
              running := false
              position := 0
              phaseOpen := Vector.replicate 4 false
              startDue := false } } : State).answered 0x22 .ok [])) ∧
    (s.window.running = false → exec .windowStop s = .next (s.answered 0x22 .ok []))

/-- RECLAIM (R102): an ORPHANED slot, or every ORPHANED slot, becomes FREE with its generation kept, and the number is
answered; a slot in another state gives STATE and an index out of range BAD_INDEX. -/
def Obligations.ReclaimFreesOrphanedSlots : Prop :=
  ∀ (b : Byte) (s : State), s.inFrame = true → s.accounting.sampleDue = none →
    (64 ≤ b.toNat → b ≠ 0xFF → exec (.reclaim b) s = .next (s.answered 0x32 .badIndex [])) ∧
    (∀ i : SlotIx, b.toNat = i.val →
      (∀ q, s.slots[i].use = .busy .orphaned q →
        exec (.reclaim b) s = .next
          (({ s with slots := setAt s.slots i { generation := s.slots[i].generation, use := .free } } :
            State).answered 0x32 .ok [1])) ∧
      ((∀ q, s.slots[i].use ≠ .busy .orphaned q) → exec (.reclaim b) s = .next (s.answered 0x32 .state []))) ∧
    ∃ slots : Vector Slot 64,
      exec (.reclaim 0xFF) s = .next
        (({ s with slots := slots } : State).answered 0x32 .ok
          [BitVec.ofNat 8 ((List.finRange 64).filter fun i : SlotIx => s.slots[i].inStage .orphaned).length]) ∧
      ∀ i : SlotIx,
        (∀ q, s.slots[i].use = .busy .orphaned q →
          slots[i] = { generation := s.slots[i].generation, use := .free }) ∧
        ((∀ q, s.slots[i].use ≠ .busy .orphaned q) → slots[i] = s.slots[i])

/-- COUNTER SET, COUNTER WRITE and OVERFLOW CLEAR (R126, R135, R136): each writes its part of the counters and nothing
else. -/
def Obligations.CounterCommandsWriteTheirPart : Prop :=
  ∀ s : State, s.inFrame = true → s.accounting.sampleDue = none →
    let with_ (counters : Vector Counter 8) : State := { s with accounting := { s.accounting with counters := counters } }
    (∀ a : CounterSetArgs,
      (8 ≤ a.index.toNat → exec (.counterSet a) s = .next (s.answered 0x40 .badIndex [])) ∧
      (a.index.toNat < 8 → ¬ counterSetAccepted a → exec (.counterSet a) s = .next (s.answered 0x40 .badArg [])) ∧
      ∀ i : CounterIx, a.index.toNat = i.val → counterSetAccepted a →
        ∃ c : CounterConfig,
          exec (.counterSet a) s = .next
            ((with_ (setAt s.accounting.counters i
              { s.accounting.counters[i] with config := c, edgeMemory := false })).answered 0x40 .ok []) ∧
          eventByte c.event = a.event ∧ c.enable = a.flags.getLsbD 0 ∧
          (a.filter = 0xFF → c.filter = none) ∧ (∀ k : StreamIx, a.filter.toNat = k.val → c.filter = some k) ∧
          c.threshold = a.threshold.toNat ∧ c.test = (if a.flags.getLsbD 1 then .below else .atLeast) ∧
          c.accumulate = (if a.flags.getLsbD 2 then .sum else .count) ∧ c.edge = a.flags.getLsbD 3 ∧
          c.freezeOnOverflow = a.flags.getLsbD 4) ∧
    (∀ (b : Byte) (v : BitVec 40),
      (8 ≤ b.toNat → exec (.counterWrite b v) s = .next (s.answered 0x41 .badIndex [])) ∧
      ∀ i : CounterIx, b.toNat = i.val →
        exec (.counterWrite b v) s = .next
          ((with_ (setAt s.accounting.counters i
            { s.accounting.counters[i] with value := v })).answered 0x41 .ok [])) ∧
    ∀ mask : Byte, ∃ counters : Vector Counter 8,
      exec (.overflowClear mask) s = .next ((with_ counters).answered 0x45 .ok []) ∧
      ∀ i : CounterIx, counters[i] =
        if mask.getLsbD i.val then { s.accounting.counters[i] with overflow := false } else s.accounting.counters[i]

/-- FREEZE and UNFREEZE (R133, R134): the accounting state alone; FREEZE keeps the cause of a freeze in force, sets no
alert cause and attempts no capture. -/
def Obligations.FreezeAndUnfreezeSetTheState : Prop :=
  ∀ s : State, s.inFrame = true → s.accounting.sampleDue = none →
    let with_ (a : AccountingState) : State := { s with accounting := { s.accounting with state := a } }
    (s.accounting.state = .counting →
      exec .freeze s = .next ((with_ (.frozen .command)).answered 0x43 .ok []) ∧
      exec .unfreeze s = .next (s.answered 0x44 .ok [])) ∧
    ∀ c : FreezeCause, s.accounting.state = .frozen c →
      exec .freeze s = .next (s.answered 0x43 .ok []) ∧
      exec .unfreeze s = .next ((with_ .counting).answered 0x44 .ok [])

/-- HISTOGRAM SET and HISTOGRAM CLEAR (R140, R145): both clear bins, marks and record, the one under a new
configuration, the other keeping it; arguments that R140 refuses change nothing. The clearing after a stored capture
acts as HISTOGRAM CLEAR does. -/
def Obligations.HistogramCommandsClear : Prop :=
  (∀ s : State, s.inFrame = true → s.accounting.sampleDue = none →
    let with_ (c : HistogramConfig) : State :=
      { s with
        accounting := { s.accounting with
          histogram :=
            { config := c, bins := Vector.replicate 8 { count := 0, saturated := false }, worst := none } } }
    (∀ a : HistogramSetArgs,
      (¬ histogramSetAccepted a → exec (.histogramSet a) s = .next (s.answered 0x50 .badArg [])) ∧
      (histogramSetAccepted a → ∃ c : HistogramConfig,
        exec (.histogramSet a) s = .next ((with_ c).answered 0x50 .ok []) ∧
        c.latencyKind = (if a.latencyKind = 0 then .wait else if a.latencyKind = 1 then .memory else .total) ∧
        (a.filter = 0xFF → c.filter = none) ∧ (∀ k : StreamIx, a.filter.toNat = k.val → c.filter = some k) ∧
        c.includeMemerr = a.flags.getLsbD 0 ∧ c.keepAddress = a.flags.getLsbD 1 ∧
        ∀ i : Fin 7, c.boundaries[i] = a.boundaries[i].toNat)) ∧
    exec .histogramClear s = .next ((with_ s.accounting.histogram.config).answered 0x52 .ok [])) ∧
  ∀ (s t : State) (k : CaptureCause) (n : Option (BitVec 32)) (b : Vector Int 16),
    s.capture.options.clearHistogram = true → s.inFrame = true → s.accounting.sampleDue = none →
      (s.capture.records.length < 4 → exec .histogramClear s = .next t →
        (s.captureAttempt k n b).accounting.histogram = t.accounting.histogram) ∧
      (4 ≤ s.capture.records.length →
        (s.captureAttempt k n b).accounting.histogram = s.accounting.histogram)

/-! ### Captures, alerts and SOFT RESET -/

/-- CAPTURE SET, ALERT MASK and ALERT ACK (R151, R161): the period, the five options and the periodic count; the
enabled set; the sticky causes named, and CAPTURE not among them. -/
def Obligations.CaptureSetAndAlertCommands : Prop :=
  ∀ s : State, s.inFrame = true → s.accounting.sampleDue = none →
    (∀ k o : Byte,
      (32 ≤ o.toNat → exec (.captureSet k o) s = .next (s.answered 0x60 .badArg [])) ∧
      (o.toNat < 32 →
        exec (.captureSet k o) s = .next
          (({ s with
              capture := { s.capture with
                period := k.toNat
                periodicCount := 0
                options :=
                  { includeHistogram := o.getLsbD 0, includeBalances := o.getLsbD 1, clearCounters := o.getLsbD 2
                    clearHistogram := o.getLsbD 3, captureOnFreeze := o.getLsbD 4 } } } : State).answered 0x60 .ok
            []))) ∧
    (∀ m : Byte,
      exec (.alertMask m) s =
        .next (({ s with alert := { s.alert with enabled := m } } : State).answered 0x72 .ok [])) ∧
    ∀ m : Byte, ∃ c : StickyCauses,
      exec (.alertAck m) s = .next (({ s with alert := { s.alert with sticky := c } } : State).answered 0x71 .ok []) ∧
      ∀ t, exec (.alertAck m) s = .next t → ∀ k : Cause,
        t.causePending k = (s.causePending k && (decide (k = .capture) || !m.getLsbD k.bit))

/-- CAPTURE NOW and CAPTURE RELEASE (R155, R157): one attempt with cause COMMAND, answered with whether it was stored
and its number; and the oldest record leaving, answered with its number, the last one taking the CAPTURE cause with
it. -/
def Obligations.CaptureNowAndRelease : Prop :=
  ∀ s : State, s.inFrame = true → s.accounting.sampleDue = none →
    (exec .captureNow s = .next
      ((s.captureAttempt .command (if s.window.running then some s.window.sequence else none)
          (mapAll StreamEntry.balance s.streams)).answered 0x61 .ok
        [if s.capture.records.length < 4 then 1 else 0, (s.capture.number + 1).setWidth 8,
          ((s.capture.number + 1) >>> 8).setWidth 8])) ∧
    (s.capture.records = [] → exec .captureRelease s = .next (s.answered 0x63 .empty [])) ∧
    ∀ r rest, s.capture.records = r :: rest →
      exec .captureRelease s = .next
        (({ s with capture := { s.capture with records := rest } } : State).answered 0x63 .ok
          [r.number.setWidth 8, (r.number >>> 8).setWidth 8]) ∧
      ∀ t, exec .captureRelease s = .next t → (t.causePending .capture = true ↔ rest ≠ [])

/-- SOFT RESET (R172, R173): BUSY while an entry or a slot in use remains; otherwise every block but the management
port takes the values of the release of RST_N, the sequence number and the answer OK are the port's, and the pins keep
their levels. -/
def Obligations.SoftResetNeedsAnIdlePart : Prop :=
  ∀ s : State, s.inFrame = true → s.accounting.sampleDue = none →
    (s.entries ≠ [] ∨ (∃ i : SlotIx, s.slots[i].use ≠ .free) →
      exec .softReset s = .next (s.answered 0x02 .busy [])) ∧
    (s.entries = [] → (∀ i : SlotIx, s.slots[i].use = .free) →
      ∃ t, exec .softReset s = .next (t.answered 0x02 .ok []) ∧ t.mgmt = s.mgmt ∧ t.rst = false ∧
        ∀ u v, exec .rstAssert s = .next u → exec .rstRelease u = .next v →
          t = { v with mgmt := s.mgmt, freeDrawn := s.freeDrawn })

/-! ### Counting, sampling, capturing and the alert line -/

/-- How one counter takes a notice (R127, R128, R130) and a sample (R129): the match, the test, the add with its wrap
modulo 2^40, and the edge memory; and what it takes of a window report (R124, TABLE 63): the WINDOW notice without a
stream, the level of its filter's index or the total for ANY, the balance of its index but no less than 0, or nothing.
-/
def Obligations.CounterTakesNoticesAndSamples : Prop :=
  ∀ c : Counter,
    let passes (q : Nat) : Prop :=
      (c.config.test = .atLeast ∧ c.config.threshold ≤ q) ∨ (c.config.test = .below ∧ q < c.config.threshold)
    let sum (q : Nat) : Nat := c.value.toNat + if c.config.accumulate = .count then 1 else q
    let added (q : Nat) : Counter :=
      { c with value := BitVec.ofNat 40 (sum q), overflow := c.overflow || decide (2 ^ 40 ≤ sum q) }
    (∀ n : Notice,
      let takes := c.config.enable = true ∧ c.config.event = n.event ∧
        (c.config.filter = none ∨ c.config.filter = n.stream)
      (takes ∧ passes n.quantity → c.takeNotice n = (added n.quantity, decide (2 ^ 40 ≤ sum n.quantity))) ∧
      (¬ (takes ∧ passes n.quantity) → c.takeNotice n = (c, false))) ∧
    (∀ q : Nat,
      (c.config.edge = false →
        (passes q → c.takeSample q = (added q, decide (2 ^ 40 ≤ sum q))) ∧ (¬ passes q → c.takeSample q = (c, false))) ∧
      (c.config.edge = true →
        (passes q → c.edgeMemory = false →
          c.takeSample q = ({ added q with edgeMemory := true }, decide (2 ^ 40 ≤ sum q))) ∧
        (passes q → c.edgeMemory = true → c.takeSample q = (c, false)) ∧
        (¬ passes q → c.takeSample q = ({ c with edgeMemory := false }, false)))) ∧
    ∀ r : WindowReport,
      (c.config.enable = false → c.takeReport r = (c, false)) ∧
      (c.config.enable = true →
        (c.config.event = .window →
          c.takeReport r = c.takeNotice { event := .window, stream := none, quantity := 0 } ∧
            (c.config.filter ≠ none → c.takeReport r = (c, false))) ∧
        (c.config.event = .heldLevel →
          (c.config.filter = none → c.takeReport r = c.takeSample r.waitingTotal) ∧
          ∀ i, c.config.filter = some i → c.takeReport r = c.takeSample r.waiting[i]) ∧
        (c.config.event = .slotLevel →
          (c.config.filter = none → c.takeReport r = c.takeSample r.slotsTotal) ∧
          ∀ i, c.config.filter = some i → c.takeReport r = c.takeSample r.slots[i]) ∧
        (c.config.event = .poolLevel →
          (c.config.filter = none → c.takeReport r = c.takeSample r.poolTotal) ∧
          ∀ i, c.config.filter = some i → c.takeReport r = c.takeSample r.pool[i]) ∧
        (∀ i, c.config.event = .balanceLevel → c.config.filter = some i →
          c.takeReport r = c.takeSample (if 0 ≤ r.balances[i] then r.balances[i].toNat else 0)) ∧
        (c.config.event ∉ [Event.window, .heldLevel, .slotLevel, .poolLevel, .balanceLevel] →
          c.takeReport r = (c, false)))

/-- A counting event at the accounting unit, a notice or a window report (R124, R127, R131, R132): nothing while
FROZEN; while COUNTING every counter takes it, and then, with one check for all of them, the lowest index among the
counters with freeze-on-overflow that wrapped, if any, freezes accounting, sets FREEZE and, when it is selected,
attempts a FREEZE capture. Nothing else in the part changes. A sample that is due is offered first (R116): that it can
be due then is how the model lets a command fall between a notice and its sample (notes/assumptions/13.md), and the
last clauses say what taking it is. -/
def Obligations.WrapFreezesAccounting : Prop :=
  (∀ (s : State) (f : Counter → Counter × Bool),
    (∃ n, f = Counter.takeNotice n) ∨ (∃ r, f = Counter.takeReport r) → s.accounting.sampleDue = none →
    let results := mapAll f s.accounting.counters
    let wraps (i : CounterIx) : Prop := results[i].2 = true ∧ s.accounting.counters[i].config.freezeOnOverflow = true
    let u : State := { s with accounting := { s.accounting with counters := mapAll Prod.fst results } }
    (∀ c, s.accounting.state = .frozen c → s.countEvent f = s) ∧
    (s.accounting.state = .counting →
      ((∀ i, ¬ wraps i) → s.countEvent f = u) ∧
      ∀ i, wraps i → (∀ j, j < i → ¬ wraps j) →
        let v : State :=
          { u with
            accounting := { u.accounting with state := .frozen (.counter i) }
            alert := { s.alert with sticky := { s.alert.sticky with freeze := true } } }
        (s.capture.options.captureOnFreeze = false → s.countEvent f = v) ∧
        (s.capture.options.captureOnFreeze = true →
          s.countEvent f =
            v.captureAttempt .freeze (if s.window.running then some s.window.sequence else none)
              (mapAll StreamEntry.balance s.streams)))) ∧
  (∀ (s : State) (n : Notice), s.takeNotice n = s.countEvent (Counter.takeNotice n)) ∧
  ∀ s : State,
    (∀ f : Counter → Counter × Bool, s.countEvent f = s.settleSample.countEvent f) ∧
    (s.accounting.sampleDue = none → s.settleSample = s) ∧
    ∀ r : SampleRecord, s.accounting.sampleDue = some r →
      s.settleSample = ({ s with accounting := { s.accounting with sampleDue := none } } : State).sample r

/-- A sample record at the histogram (R141 to R144): taken while COUNTING, by the filter and the status; its latency
of the kind in force falls in the bin whose boundaries it lies between; a full bin is marked and not counted; and the
worst-case record is replaced by a strictly greater latency alone. -/
def Obligations.HistogramTakesSamples : Prop :=
  ∀ (s : State) (r : SampleRecord),
    let h := s.accounting.histogram
    let sampled := s.accounting.state = .counting ∧ (h.config.filter = none ∨ h.config.filter = some r.req.stream) ∧
      (r.ok = true ∨ h.config.includeMemerr = true)
    let latency : Time :=
      match h.config.latencyKind with
      | .wait => r.req.issueTime - r.req.arrivalTime
      | .memory => r.forwardingTime - r.req.issueTime
      | .total => r.forwardingTime - r.req.arrivalTime
    (¬ sampled → s.sample r = s) ∧
    (sampled → ascending h.config.boundaries = true → ∃ (k : Fin 8) (h' : Histogram),
      s.sample r = { s with accounting := { s.accounting with histogram := h' } } ∧ h'.config = h.config ∧
      (∀ i : Fin 7, (h.config.boundaries[i] ≤ latency.toNat ↔ i.val < k.val)) ∧
      (∀ j : Fin 8, j ≠ k → h'.bins[j] = h.bins[j]) ∧
      (h.bins[k].count.toNat < 2 ^ 32 - 1 →
        h'.bins[k] = { count := h.bins[k].count + 1, saturated := h.bins[k].saturated }) ∧
      (h.bins[k].count.toNat = 2 ^ 32 - 1 → h'.bins[k] = { count := h.bins[k].count, saturated := true }) ∧
      ((∃ w, h.worst = some w ∧ latency.toNat ≤ w.latency.toNat) → h'.worst = h.worst) ∧
      ((∀ w, h.worst = some w → w.latency.toNat < latency.toNat) →
        h'.worst = some
          { latency := latency, stream := r.req.stream, source := r.req.source, northTag := r.req.northTag
            kind := r.req.kind, beats := r.req.beats, ok := r.ok
            windowSequence := r.windowSequence
            address := if h.config.keepAddress then some r.req.address else none }))

/-- A capture attempt (R150, R152, R153): the number always advances; a full queue drops the attempt, counts it missed
and clears nothing; a queue with room stores a record of the part as it stands and then clears by the options. A
window report makes the periodic count rise and, at K, one PERIODIC attempt with the report's number and balances. -/
def Obligations.CaptureAttemptStoresOrDrops : Prop :=
  (∀ (s : State) (k : CaptureCause) (n : Option (BitVec 32)) (b : Vector Int 16),
    (4 ≤ s.capture.records.length →
      s.captureAttempt k n b =
        { s with
          capture := { s.capture with
            number := s.capture.number + 1
            missed := if s.capture.missed < 255 then s.capture.missed + 1 else 255 } }) ∧
    (s.capture.records.length < 4 →
      ∃ t r, s.captureAttempt k n b = t ∧
        t = { s with
          accounting := t.accounting
          capture := { s.capture with
            number := s.capture.number + 1, missed := 0, records := s.capture.records ++ [r] } } ∧
        (r.number = s.capture.number + 1 ∧ r.cause = k ∧ r.windowSequence = n ∧ r.partTime = s.window.partTime ∧
          r.missed = s.capture.missed ∧ r.accounting = s.accounting.state ∧ r.waitingTotal = s.waitingTotal ∧
          r.owedTotal = s.owedTotal ∧ r.poolInUse = s.poolInUse ∧ r.slotsNotFree = s.slotsNotFree ∧
          (∀ i : CounterIx, r.values[i] = s.accounting.counters[i].value ∧
            r.overflow[i] = s.accounting.counters[i].overflow) ∧
          r.histogram = (if s.capture.options.includeHistogram then some s.accounting.histogram.bins else none) ∧
          r.balances = if s.capture.options.includeBalances then some b else none) ∧
        t.accounting.state = s.accounting.state ∧
        (∀ i : CounterIx, t.accounting.counters[i] =
          if s.capture.options.clearCounters then
            { s.accounting.counters[i] with value := 0, overflow := false, edgeMemory := false }
          else s.accounting.counters[i]) ∧
        t.accounting.histogram =
          if s.capture.options.clearHistogram then
            { config := s.accounting.histogram.config
              bins := Vector.replicate 8 { count := 0, saturated := false }, worst := none }
          else s.accounting.histogram)) ∧
  ∀ (s : State) (r : WindowReport),
    let u := s.countEvent (Counter.takeReport r)
    (s.capture.period = 0 → s.takeReport r = u) ∧
    (s.capture.period ≠ 0 → s.capture.periodicCount + 1 ≠ s.capture.period →
      s.takeReport r = { u with capture := { u.capture with periodicCount := s.capture.periodicCount + 1 } }) ∧
    (s.capture.periodicCount + 1 = s.capture.period →
      s.takeReport r =
        ({ u with capture := { u.capture with periodicCount := 0 } } : State).captureAttempt .periodic (some r.number)
          r.balances)

/-- ALERT_N (R160): low exactly when the pending and the enabled set have a cause in common, and released while RST_N
is asserted; CAPTURE is pending exactly while the capture queue holds a record. -/
def Obligations.AlertLineFollowsTheSets : Prop :=
  ∀ s : State,
    (s.alertLow = true ↔ s.rst = false ∧ ∃ k : Cause, s.causePending k = true ∧ s.alert.enabled.getLsbD k.bit = true) ∧
      (s.causePending .capture = true ↔ s.capture.records ≠ []) ∧
      ∀ j k : Cause, j.bit = k.bit → j = k

/-! ### Invariants -/

/-- Every step keeps the laws of the pending list, the data pool, the tracking table and the reply order list. -/
def Obligations.StepKeepsTrafficLaws : Prop :=
  ∀ s t : State, TrafficInv s → step s = .next t → TrafficInv t

/-- Every step keeps the laws of the stream table, in a state that keeps all the laws. -/
def Obligations.StepKeepsStreamLaws : Prop :=
  ∀ s t : State, Inv s → step s = .next t → StreamInv t

/-- Every step keeps the laws of the window generator, of the accounting unit with the capture queue, and of the
management port; that a sample is due only within a frame is a law of the model's own place for it
(notes/assumptions/13.md). -/
def Obligations.StepKeepsUnitLaws : Prop :=
  ∀ s t : State, WindowInv s.window → AccountingInv s → PortInv s → step s = .next t →
    WindowInv t.window ∧ AccountingInv t ∧ PortInv t

/-- The state after reset keeps every law. -/
def Obligations.ResetKeepsEveryLaw : Prop := Inv State.reset
end

