-- ==== Sys2Proof/Laws/State.lean ====
section
/-! SUPPORT. One lemma for each field under each named update of the state: what it becomes, or that it is unchanged. -/

namespace Sys2Proof.Machine

variable (s : State)

/-! ### withBooks -/

@[simp] theorem State.withBooks_port (b : Books) : (s.withBooks b).port = s.port := rfl
@[simp] theorem State.withBooks_streams (b : Books) : (s.withBooks b).streams = s.streams := rfl
@[simp] theorem State.withBooks_entries (b : Books) : (s.withBooks b).entries = s.entries := rfl
@[simp] theorem State.withBooks_nextId (b : Books) : (s.withBooks b).nextId = s.nextId := rfl
@[simp] theorem State.withBooks_slots (b : Books) : (s.withBooks b).slots = s.slots := rfl
@[simp] theorem State.withBooks_timeout (b : Books) : (s.withBooks b).timeout = s.timeout := rfl
@[simp] theorem State.withBooks_candidate (b : Books) : (s.withBooks b).candidate = s.candidate := rfl
@[simp] theorem State.withBooks_replyOrder (b : Books) : (s.withBooks b).replyOrder = s.replyOrder := rfl
@[simp] theorem State.withBooks_lastServed (b : Books) : (s.withBooks b).lastServed = s.lastServed := rfl
@[simp] theorem State.withBooks_window (b : Books) : (s.withBooks b).window = s.window := rfl
@[simp] theorem State.withBooks_accounting (b : Books) : (s.withBooks b).accounting = b.accounting := rfl
@[simp] theorem State.withBooks_capture (b : Books) : (s.withBooks b).capture = b.capture := rfl
@[simp] theorem State.withBooks_alert (b : Books) : (s.withBooks b).alert = b.alert := rfl
@[simp] theorem State.withBooks_mgmt (b : Books) : (s.withBooks b).mgmt = s.mgmt := rfl
@[simp] theorem State.withBooks_rst (b : Books) : (s.withBooks b).rst = s.rst := rfl
@[simp] theorem State.withBooks_nlrst (b : Books) : (s.withBooks b).nlrst = s.nlrst := rfl
@[simp] theorem State.withBooks_northSent (b : Books) : (s.withBooks b).northSent = s.northSent := rfl
@[simp] theorem State.withBooks_southSent (b : Books) : (s.withBooks b).southSent = s.southSent := rfl
@[simp] theorem State.withBooks_freeDrawn (b : Books) : (s.withBooks b).freeDrawn = s.freeDrawn := rfl
@[simp] theorem State.withBooks_pending (b : Books) : (s.withBooks b).pending = s.pending := rfl

/-! ### withSticky -/

@[simp] theorem State.withSticky_port (f : StickyCauses → StickyCauses) : (s.withSticky f).port = s.port := rfl
@[simp] theorem State.withSticky_streams (f : StickyCauses → StickyCauses) : (s.withSticky f).streams = s.streams := rfl
@[simp] theorem State.withSticky_entries (f : StickyCauses → StickyCauses) : (s.withSticky f).entries = s.entries := rfl
@[simp] theorem State.withSticky_nextId (f : StickyCauses → StickyCauses) : (s.withSticky f).nextId = s.nextId := rfl
@[simp] theorem State.withSticky_slots (f : StickyCauses → StickyCauses) : (s.withSticky f).slots = s.slots := rfl
@[simp] theorem State.withSticky_timeout (f : StickyCauses → StickyCauses) : (s.withSticky f).timeout = s.timeout := rfl
@[simp] theorem State.withSticky_candidate (f : StickyCauses → StickyCauses) : (s.withSticky f).candidate = s.candidate := rfl
@[simp] theorem State.withSticky_replyOrder (f : StickyCauses → StickyCauses) : (s.withSticky f).replyOrder = s.replyOrder := rfl
@[simp] theorem State.withSticky_lastServed (f : StickyCauses → StickyCauses) : (s.withSticky f).lastServed = s.lastServed := rfl
@[simp] theorem State.withSticky_window (f : StickyCauses → StickyCauses) : (s.withSticky f).window = s.window := rfl
@[simp] theorem State.withSticky_accounting (f : StickyCauses → StickyCauses) : (s.withSticky f).accounting = s.accounting := rfl
@[simp] theorem State.withSticky_capture (f : StickyCauses → StickyCauses) : (s.withSticky f).capture = s.capture := rfl
@[simp] theorem State.withSticky_alert (f : StickyCauses → StickyCauses) : (s.withSticky f).alert = { s.alert with sticky := f s.alert.sticky } := rfl
@[simp] theorem State.withSticky_mgmt (f : StickyCauses → StickyCauses) : (s.withSticky f).mgmt = s.mgmt := rfl
@[simp] theorem State.withSticky_rst (f : StickyCauses → StickyCauses) : (s.withSticky f).rst = s.rst := rfl
@[simp] theorem State.withSticky_nlrst (f : StickyCauses → StickyCauses) : (s.withSticky f).nlrst = s.nlrst := rfl
@[simp] theorem State.withSticky_northSent (f : StickyCauses → StickyCauses) : (s.withSticky f).northSent = s.northSent := rfl
@[simp] theorem State.withSticky_southSent (f : StickyCauses → StickyCauses) : (s.withSticky f).southSent = s.southSent := rfl
@[simp] theorem State.withSticky_freeDrawn (f : StickyCauses → StickyCauses) : (s.withSticky f).freeDrawn = s.freeDrawn := rfl
@[simp] theorem State.withSticky_pending (f : StickyCauses → StickyCauses) : (s.withSticky f).pending = s.pending := rfl

/-! ### setStream -/

@[simp] theorem State.setStream_port (i : StreamIx) (e : StreamEntry) : (s.setStream i e).port = s.port := rfl
@[simp] theorem State.setStream_streams (i : StreamIx) (e : StreamEntry) : (s.setStream i e).streams = setAt s.streams i e := rfl
@[simp] theorem State.setStream_entries (i : StreamIx) (e : StreamEntry) : (s.setStream i e).entries = s.entries := rfl
@[simp] theorem State.setStream_nextId (i : StreamIx) (e : StreamEntry) : (s.setStream i e).nextId = s.nextId := rfl
@[simp] theorem State.setStream_slots (i : StreamIx) (e : StreamEntry) : (s.setStream i e).slots = s.slots := rfl
@[simp] theorem State.setStream_timeout (i : StreamIx) (e : StreamEntry) : (s.setStream i e).timeout = s.timeout := rfl
@[simp] theorem State.setStream_candidate (i : StreamIx) (e : StreamEntry) : (s.setStream i e).candidate = s.candidate := rfl
@[simp] theorem State.setStream_replyOrder (i : StreamIx) (e : StreamEntry) : (s.setStream i e).replyOrder = s.replyOrder := rfl
@[simp] theorem State.setStream_lastServed (i : StreamIx) (e : StreamEntry) : (s.setStream i e).lastServed = s.lastServed := rfl
@[simp] theorem State.setStream_window (i : StreamIx) (e : StreamEntry) : (s.setStream i e).window = s.window := rfl
@[simp] theorem State.setStream_accounting (i : StreamIx) (e : StreamEntry) : (s.setStream i e).accounting = s.accounting := rfl
@[simp] theorem State.setStream_capture (i : StreamIx) (e : StreamEntry) : (s.setStream i e).capture = s.capture := rfl
@[simp] theorem State.setStream_alert (i : StreamIx) (e : StreamEntry) : (s.setStream i e).alert = s.alert := rfl
@[simp] theorem State.setStream_mgmt (i : StreamIx) (e : StreamEntry) : (s.setStream i e).mgmt = s.mgmt := rfl
@[simp] theorem State.setStream_rst (i : StreamIx) (e : StreamEntry) : (s.setStream i e).rst = s.rst := rfl
@[simp] theorem State.setStream_nlrst (i : StreamIx) (e : StreamEntry) : (s.setStream i e).nlrst = s.nlrst := rfl
@[simp] theorem State.setStream_northSent (i : StreamIx) (e : StreamEntry) : (s.setStream i e).northSent = s.northSent := rfl
@[simp] theorem State.setStream_southSent (i : StreamIx) (e : StreamEntry) : (s.setStream i e).southSent = s.southSent := rfl
@[simp] theorem State.setStream_freeDrawn (i : StreamIx) (e : StreamEntry) : (s.setStream i e).freeDrawn = s.freeDrawn := rfl
@[simp] theorem State.setStream_pending (i : StreamIx) (e : StreamEntry) : (s.setStream i e).pending = s.pending := rfl

/-! ### withWindow -/

@[simp] theorem State.withWindow_port (w : WindowGen) : (s.withWindow w).port = s.port := rfl
@[simp] theorem State.withWindow_streams (w : WindowGen) : (s.withWindow w).streams = s.streams := rfl
@[simp] theorem State.withWindow_entries (w : WindowGen) : (s.withWindow w).entries = s.entries := rfl
@[simp] theorem State.withWindow_nextId (w : WindowGen) : (s.withWindow w).nextId = s.nextId := rfl
@[simp] theorem State.withWindow_slots (w : WindowGen) : (s.withWindow w).slots = s.slots := rfl
@[simp] theorem State.withWindow_timeout (w : WindowGen) : (s.withWindow w).timeout = s.timeout := rfl
@[simp] theorem State.withWindow_candidate (w : WindowGen) : (s.withWindow w).candidate = s.candidate := rfl
@[simp] theorem State.withWindow_replyOrder (w : WindowGen) : (s.withWindow w).replyOrder = s.replyOrder := rfl
@[simp] theorem State.withWindow_lastServed (w : WindowGen) : (s.withWindow w).lastServed = s.lastServed := rfl
@[simp] theorem State.withWindow_window (w : WindowGen) : (s.withWindow w).window = w := rfl
@[simp] theorem State.withWindow_accounting (w : WindowGen) : (s.withWindow w).accounting = s.accounting := rfl
@[simp] theorem State.withWindow_capture (w : WindowGen) : (s.withWindow w).capture = s.capture := rfl
@[simp] theorem State.withWindow_alert (w : WindowGen) : (s.withWindow w).alert = s.alert := rfl
@[simp] theorem State.withWindow_mgmt (w : WindowGen) : (s.withWindow w).mgmt = s.mgmt := rfl
@[simp] theorem State.withWindow_rst (w : WindowGen) : (s.withWindow w).rst = s.rst := rfl
@[simp] theorem State.withWindow_nlrst (w : WindowGen) : (s.withWindow w).nlrst = s.nlrst := rfl
@[simp] theorem State.withWindow_northSent (w : WindowGen) : (s.withWindow w).northSent = s.northSent := rfl
@[simp] theorem State.withWindow_southSent (w : WindowGen) : (s.withWindow w).southSent = s.southSent := rfl
@[simp] theorem State.withWindow_freeDrawn (w : WindowGen) : (s.withWindow w).freeDrawn = s.freeDrawn := rfl
@[simp] theorem State.withWindow_pending (w : WindowGen) : (s.withWindow w).pending = s.pending := rfl

/-! ### withAccounting -/

@[simp] theorem State.withAccounting_port (u : AccountingUnit) : (s.withAccounting u).port = s.port := rfl
@[simp] theorem State.withAccounting_streams (u : AccountingUnit) : (s.withAccounting u).streams = s.streams := rfl
@[simp] theorem State.withAccounting_entries (u : AccountingUnit) : (s.withAccounting u).entries = s.entries := rfl
@[simp] theorem State.withAccounting_nextId (u : AccountingUnit) : (s.withAccounting u).nextId = s.nextId := rfl
@[simp] theorem State.withAccounting_slots (u : AccountingUnit) : (s.withAccounting u).slots = s.slots := rfl
@[simp] theorem State.withAccounting_timeout (u : AccountingUnit) : (s.withAccounting u).timeout = s.timeout := rfl
@[simp] theorem State.withAccounting_candidate (u : AccountingUnit) : (s.withAccounting u).candidate = s.candidate := rfl
@[simp] theorem State.withAccounting_replyOrder (u : AccountingUnit) : (s.withAccounting u).replyOrder = s.replyOrder := rfl
@[simp] theorem State.withAccounting_lastServed (u : AccountingUnit) : (s.withAccounting u).lastServed = s.lastServed := rfl
@[simp] theorem State.withAccounting_window (u : AccountingUnit) : (s.withAccounting u).window = s.window := rfl
@[simp] theorem State.withAccounting_accounting (u : AccountingUnit) : (s.withAccounting u).accounting = u := rfl
@[simp] theorem State.withAccounting_capture (u : AccountingUnit) : (s.withAccounting u).capture = s.capture := rfl
@[simp] theorem State.withAccounting_alert (u : AccountingUnit) : (s.withAccounting u).alert = s.alert := rfl
@[simp] theorem State.withAccounting_mgmt (u : AccountingUnit) : (s.withAccounting u).mgmt = s.mgmt := rfl
@[simp] theorem State.withAccounting_rst (u : AccountingUnit) : (s.withAccounting u).rst = s.rst := rfl
@[simp] theorem State.withAccounting_nlrst (u : AccountingUnit) : (s.withAccounting u).nlrst = s.nlrst := rfl
@[simp] theorem State.withAccounting_northSent (u : AccountingUnit) : (s.withAccounting u).northSent = s.northSent := rfl
@[simp] theorem State.withAccounting_southSent (u : AccountingUnit) : (s.withAccounting u).southSent = s.southSent := rfl
@[simp] theorem State.withAccounting_freeDrawn (u : AccountingUnit) : (s.withAccounting u).freeDrawn = s.freeDrawn := rfl
@[simp] theorem State.withAccounting_pending (u : AccountingUnit) : (s.withAccounting u).pending = s.pending := rfl

/-! ### withHistogram -/

@[simp] theorem State.withHistogram_port (h : Histogram) : (s.withHistogram h).port = s.port := rfl
@[simp] theorem State.withHistogram_streams (h : Histogram) : (s.withHistogram h).streams = s.streams := rfl
@[simp] theorem State.withHistogram_entries (h : Histogram) : (s.withHistogram h).entries = s.entries := rfl
@[simp] theorem State.withHistogram_nextId (h : Histogram) : (s.withHistogram h).nextId = s.nextId := rfl
@[simp] theorem State.withHistogram_slots (h : Histogram) : (s.withHistogram h).slots = s.slots := rfl
@[simp] theorem State.withHistogram_timeout (h : Histogram) : (s.withHistogram h).timeout = s.timeout := rfl
@[simp] theorem State.withHistogram_candidate (h : Histogram) : (s.withHistogram h).candidate = s.candidate := rfl
@[simp] theorem State.withHistogram_replyOrder (h : Histogram) : (s.withHistogram h).replyOrder = s.replyOrder := rfl
@[simp] theorem State.withHistogram_lastServed (h : Histogram) : (s.withHistogram h).lastServed = s.lastServed := rfl
@[simp] theorem State.withHistogram_window (h : Histogram) : (s.withHistogram h).window = s.window := rfl
@[simp] theorem State.withHistogram_accounting (h : Histogram) : (s.withHistogram h).accounting = { s.accounting with histogram := h } := rfl
@[simp] theorem State.withHistogram_capture (h : Histogram) : (s.withHistogram h).capture = s.capture := rfl
@[simp] theorem State.withHistogram_alert (h : Histogram) : (s.withHistogram h).alert = s.alert := rfl
@[simp] theorem State.withHistogram_mgmt (h : Histogram) : (s.withHistogram h).mgmt = s.mgmt := rfl
@[simp] theorem State.withHistogram_rst (h : Histogram) : (s.withHistogram h).rst = s.rst := rfl
@[simp] theorem State.withHistogram_nlrst (h : Histogram) : (s.withHistogram h).nlrst = s.nlrst := rfl
@[simp] theorem State.withHistogram_northSent (h : Histogram) : (s.withHistogram h).northSent = s.northSent := rfl
@[simp] theorem State.withHistogram_southSent (h : Histogram) : (s.withHistogram h).southSent = s.southSent := rfl
@[simp] theorem State.withHistogram_freeDrawn (h : Histogram) : (s.withHistogram h).freeDrawn = s.freeDrawn := rfl
@[simp] theorem State.withHistogram_pending (h : Histogram) : (s.withHistogram h).pending = s.pending := rfl

/-! ### setCounter -/

@[simp] theorem State.setCounter_port (i : CounterIx) (c : Counter) : (s.setCounter i c).port = s.port := rfl
@[simp] theorem State.setCounter_streams (i : CounterIx) (c : Counter) : (s.setCounter i c).streams = s.streams := rfl
@[simp] theorem State.setCounter_entries (i : CounterIx) (c : Counter) : (s.setCounter i c).entries = s.entries := rfl
@[simp] theorem State.setCounter_nextId (i : CounterIx) (c : Counter) : (s.setCounter i c).nextId = s.nextId := rfl
@[simp] theorem State.setCounter_slots (i : CounterIx) (c : Counter) : (s.setCounter i c).slots = s.slots := rfl
@[simp] theorem State.setCounter_timeout (i : CounterIx) (c : Counter) : (s.setCounter i c).timeout = s.timeout := rfl
@[simp] theorem State.setCounter_candidate (i : CounterIx) (c : Counter) : (s.setCounter i c).candidate = s.candidate := rfl
@[simp] theorem State.setCounter_replyOrder (i : CounterIx) (c : Counter) : (s.setCounter i c).replyOrder = s.replyOrder := rfl
@[simp] theorem State.setCounter_lastServed (i : CounterIx) (c : Counter) : (s.setCounter i c).lastServed = s.lastServed := rfl
@[simp] theorem State.setCounter_window (i : CounterIx) (c : Counter) : (s.setCounter i c).window = s.window := rfl
@[simp] theorem State.setCounter_accounting (i : CounterIx) (c : Counter) : (s.setCounter i c).accounting = { s.accounting with counters := setAt s.accounting.counters i c } := rfl
@[simp] theorem State.setCounter_capture (i : CounterIx) (c : Counter) : (s.setCounter i c).capture = s.capture := rfl
@[simp] theorem State.setCounter_alert (i : CounterIx) (c : Counter) : (s.setCounter i c).alert = s.alert := rfl
@[simp] theorem State.setCounter_mgmt (i : CounterIx) (c : Counter) : (s.setCounter i c).mgmt = s.mgmt := rfl
@[simp] theorem State.setCounter_rst (i : CounterIx) (c : Counter) : (s.setCounter i c).rst = s.rst := rfl
@[simp] theorem State.setCounter_nlrst (i : CounterIx) (c : Counter) : (s.setCounter i c).nlrst = s.nlrst := rfl
@[simp] theorem State.setCounter_northSent (i : CounterIx) (c : Counter) : (s.setCounter i c).northSent = s.northSent := rfl
@[simp] theorem State.setCounter_southSent (i : CounterIx) (c : Counter) : (s.setCounter i c).southSent = s.southSent := rfl
@[simp] theorem State.setCounter_freeDrawn (i : CounterIx) (c : Counter) : (s.setCounter i c).freeDrawn = s.freeDrawn := rfl
@[simp] theorem State.setCounter_pending (i : CounterIx) (c : Counter) : (s.setCounter i c).pending = s.pending := rfl

/-! ### withCapture -/

@[simp] theorem State.withCapture_port (q : CaptureQueue) : (s.withCapture q).port = s.port := rfl
@[simp] theorem State.withCapture_streams (q : CaptureQueue) : (s.withCapture q).streams = s.streams := rfl
@[simp] theorem State.withCapture_entries (q : CaptureQueue) : (s.withCapture q).entries = s.entries := rfl
@[simp] theorem State.withCapture_nextId (q : CaptureQueue) : (s.withCapture q).nextId = s.nextId := rfl
@[simp] theorem State.withCapture_slots (q : CaptureQueue) : (s.withCapture q).slots = s.slots := rfl
@[simp] theorem State.withCapture_timeout (q : CaptureQueue) : (s.withCapture q).timeout = s.timeout := rfl
@[simp] theorem State.withCapture_candidate (q : CaptureQueue) : (s.withCapture q).candidate = s.candidate := rfl
@[simp] theorem State.withCapture_replyOrder (q : CaptureQueue) : (s.withCapture q).replyOrder = s.replyOrder := rfl
@[simp] theorem State.withCapture_lastServed (q : CaptureQueue) : (s.withCapture q).lastServed = s.lastServed := rfl
@[simp] theorem State.withCapture_window (q : CaptureQueue) : (s.withCapture q).window = s.window := rfl
@[simp] theorem State.withCapture_accounting (q : CaptureQueue) : (s.withCapture q).accounting = s.accounting := rfl
@[simp] theorem State.withCapture_capture (q : CaptureQueue) : (s.withCapture q).capture = q := rfl
@[simp] theorem State.withCapture_alert (q : CaptureQueue) : (s.withCapture q).alert = s.alert := rfl
@[simp] theorem State.withCapture_mgmt (q : CaptureQueue) : (s.withCapture q).mgmt = s.mgmt := rfl
@[simp] theorem State.withCapture_rst (q : CaptureQueue) : (s.withCapture q).rst = s.rst := rfl
@[simp] theorem State.withCapture_nlrst (q : CaptureQueue) : (s.withCapture q).nlrst = s.nlrst := rfl
@[simp] theorem State.withCapture_northSent (q : CaptureQueue) : (s.withCapture q).northSent = s.northSent := rfl
@[simp] theorem State.withCapture_southSent (q : CaptureQueue) : (s.withCapture q).southSent = s.southSent := rfl
@[simp] theorem State.withCapture_freeDrawn (q : CaptureQueue) : (s.withCapture q).freeDrawn = s.freeDrawn := rfl
@[simp] theorem State.withCapture_pending (q : CaptureQueue) : (s.withCapture q).pending = s.pending := rfl

/-! ### northTake -/

@[simp] theorem State.northTake_port (k : ReplyClass) (r : NorthResponse) : (s.northTake k r).port = s.port := rfl
@[simp] theorem State.northTake_streams (k : ReplyClass) (r : NorthResponse) : (s.northTake k r).streams = s.streams := rfl
@[simp] theorem State.northTake_entries (k : ReplyClass) (r : NorthResponse) : (s.northTake k r).entries = s.entries := rfl
@[simp] theorem State.northTake_nextId (k : ReplyClass) (r : NorthResponse) : (s.northTake k r).nextId = s.nextId := rfl
@[simp] theorem State.northTake_slots (k : ReplyClass) (r : NorthResponse) : (s.northTake k r).slots = s.slots := rfl
@[simp] theorem State.northTake_timeout (k : ReplyClass) (r : NorthResponse) : (s.northTake k r).timeout = s.timeout := rfl
@[simp] theorem State.northTake_candidate (k : ReplyClass) (r : NorthResponse) : (s.northTake k r).candidate = s.candidate := rfl
@[simp] theorem State.northTake_replyOrder (k : ReplyClass) (r : NorthResponse) : (s.northTake k r).replyOrder = s.replyOrder := rfl
@[simp] theorem State.northTake_lastServed (k : ReplyClass) (r : NorthResponse) : (s.northTake k r).lastServed = k := rfl
@[simp] theorem State.northTake_window (k : ReplyClass) (r : NorthResponse) : (s.northTake k r).window = s.window := rfl
@[simp] theorem State.northTake_accounting (k : ReplyClass) (r : NorthResponse) : (s.northTake k r).accounting = s.accounting := rfl
@[simp] theorem State.northTake_capture (k : ReplyClass) (r : NorthResponse) : (s.northTake k r).capture = s.capture := rfl
@[simp] theorem State.northTake_alert (k : ReplyClass) (r : NorthResponse) : (s.northTake k r).alert = s.alert := rfl
@[simp] theorem State.northTake_mgmt (k : ReplyClass) (r : NorthResponse) : (s.northTake k r).mgmt = s.mgmt := rfl
@[simp] theorem State.northTake_rst (k : ReplyClass) (r : NorthResponse) : (s.northTake k r).rst = s.rst := rfl
@[simp] theorem State.northTake_nlrst (k : ReplyClass) (r : NorthResponse) : (s.northTake k r).nlrst = s.nlrst := rfl
@[simp] theorem State.northTake_northSent (k : ReplyClass) (r : NorthResponse) : (s.northTake k r).northSent = s.northSent ++ [r.toMessage] := rfl
@[simp] theorem State.northTake_southSent (k : ReplyClass) (r : NorthResponse) : (s.northTake k r).southSent = s.southSent := rfl
@[simp] theorem State.northTake_freeDrawn (k : ReplyClass) (r : NorthResponse) : (s.northTake k r).freeDrawn = s.freeDrawn := rfl
@[simp] theorem State.northTake_pending (k : ReplyClass) (r : NorthResponse) : (s.northTake k r).pending = s.pending := rfl

/-! ### deselect -/

@[simp] theorem State.deselect_port : (s.deselect).port = s.port := rfl
@[simp] theorem State.deselect_streams : (s.deselect).streams = s.streams := rfl
@[simp] theorem State.deselect_entries : (s.deselect).entries = s.entries := rfl
@[simp] theorem State.deselect_nextId : (s.deselect).nextId = s.nextId := rfl
@[simp] theorem State.deselect_slots : (s.deselect).slots = s.slots := rfl
@[simp] theorem State.deselect_timeout : (s.deselect).timeout = s.timeout := rfl
@[simp] theorem State.deselect_candidate : (s.deselect).candidate = s.candidate := rfl
@[simp] theorem State.deselect_replyOrder : (s.deselect).replyOrder = s.replyOrder := rfl
@[simp] theorem State.deselect_lastServed : (s.deselect).lastServed = s.lastServed := rfl
@[simp] theorem State.deselect_window : (s.deselect).window = s.window := rfl
@[simp] theorem State.deselect_accounting : (s.deselect).accounting = s.accounting := rfl
@[simp] theorem State.deselect_capture : (s.deselect).capture = s.capture := rfl
@[simp] theorem State.deselect_alert : (s.deselect).alert = s.alert := rfl
@[simp] theorem State.deselect_mgmt : (s.deselect).mgmt = { s.mgmt with selected := false, rx := .idle } := rfl
@[simp] theorem State.deselect_rst : (s.deselect).rst = s.rst := rfl
@[simp] theorem State.deselect_nlrst : (s.deselect).nlrst = s.nlrst := rfl
@[simp] theorem State.deselect_northSent : (s.deselect).northSent = s.northSent := rfl
@[simp] theorem State.deselect_southSent : (s.deselect).southSent = s.southSent := rfl
@[simp] theorem State.deselect_freeDrawn : (s.deselect).freeDrawn = s.freeDrawn := rfl
@[simp] theorem State.deselect_pending : (s.deselect).pending = s.pending := rfl

/-! ### answered -/

@[simp] theorem State.answered_port (b : Byte) (c : Status) (d : List Byte) : (s.answered b c d).port = s.port := rfl
@[simp] theorem State.answered_streams (b : Byte) (c : Status) (d : List Byte) : (s.answered b c d).streams = s.streams := rfl
@[simp] theorem State.answered_entries (b : Byte) (c : Status) (d : List Byte) : (s.answered b c d).entries = s.entries := rfl
@[simp] theorem State.answered_nextId (b : Byte) (c : Status) (d : List Byte) : (s.answered b c d).nextId = s.nextId := rfl
@[simp] theorem State.answered_slots (b : Byte) (c : Status) (d : List Byte) : (s.answered b c d).slots = s.slots := rfl
@[simp] theorem State.answered_timeout (b : Byte) (c : Status) (d : List Byte) : (s.answered b c d).timeout = s.timeout := rfl
@[simp] theorem State.answered_candidate (b : Byte) (c : Status) (d : List Byte) : (s.answered b c d).candidate = s.candidate := rfl
@[simp] theorem State.answered_replyOrder (b : Byte) (c : Status) (d : List Byte) : (s.answered b c d).replyOrder = s.replyOrder := rfl
@[simp] theorem State.answered_lastServed (b : Byte) (c : Status) (d : List Byte) : (s.answered b c d).lastServed = s.lastServed := rfl
@[simp] theorem State.answered_window (b : Byte) (c : Status) (d : List Byte) : (s.answered b c d).window = s.window := rfl
@[simp] theorem State.answered_accounting (b : Byte) (c : Status) (d : List Byte) : (s.answered b c d).accounting = s.accounting := rfl
@[simp] theorem State.answered_capture (b : Byte) (c : Status) (d : List Byte) : (s.answered b c d).capture = s.capture := rfl
@[simp] theorem State.answered_alert (b : Byte) (c : Status) (d : List Byte) : (s.answered b c d).alert = s.alert := rfl
@[simp] theorem State.answered_rst (b : Byte) (c : Status) (d : List Byte) : (s.answered b c d).rst = s.rst := rfl
@[simp] theorem State.answered_nlrst (b : Byte) (c : Status) (d : List Byte) : (s.answered b c d).nlrst = s.nlrst := rfl
@[simp] theorem State.answered_northSent (b : Byte) (c : Status) (d : List Byte) : (s.answered b c d).northSent = s.northSent := rfl
@[simp] theorem State.answered_southSent (b : Byte) (c : Status) (d : List Byte) : (s.answered b c d).southSent = s.southSent := rfl
@[simp] theorem State.answered_freeDrawn (b : Byte) (c : Status) (d : List Byte) : (s.answered b c d).freeDrawn = s.freeDrawn := rfl
@[simp] theorem State.answered_pending (b : Byte) (c : Status) (d : List Byte) : (s.answered b c d).pending = s.pending := rfl

/-! ### The management port after an answer -/

@[simp] theorem State.answered_selected (b : Byte) (c : Status) (d : List Byte) :
    (s.answered b c d).mgmt.selected = false := rfl
@[simp] theorem State.answered_rx (b : Byte) (c : Status) (d : List Byte) : (s.answered b c d).mgmt.rx = .idle := rfl
@[simp] theorem State.answered_miso (b : Byte) (c : Status) (d : List Byte) :
    (s.answered b c d).mgmt.miso = s.mgmt.miso := rfl
@[simp] theorem State.answered_sequence (b : Byte) (c : Status) (d : List Byte) :
    (s.answered b c d).mgmt.sequence = s.mgmt.sequence + 1 := rfl
@[simp] theorem State.answered_held (b : Byte) (c : Status) (d : List Byte) :
    (s.answered b c d).mgmt.held =
      { status := c, echo := b, sequence := s.mgmt.sequence + 1, data := d } := rfl

/-! ### The three blocks of the books -/

@[simp] theorem State.books_accounting : s.books.accounting = s.accounting := rfl
@[simp] theorem State.books_capture : s.books.capture = s.capture := rfl
@[simp] theorem State.books_alert : s.books.alert = s.alert := rfl
@[simp] theorem State.withBooks_books : s.withBooks s.books = s := rfl
@[simp] theorem State.books_withBooks (b : Books) : (s.withBooks b).books = b := rfl
@[simp] theorem State.withBooks_withBooks (a b : Books) : (s.withBooks a).withBooks b = s.withBooks b := rfl

/-! ### Replies of a command's owner -/

@[simp] theorem Reply.ok_state (d : List Byte) : (Reply.ok s d).state = s := rfl
@[simp] theorem Reply.ok_status (d : List Byte) : (Reply.ok s d).status = .ok := rfl
@[simp] theorem Reply.ok_data (d : List Byte) : (Reply.ok s d).data = d := rfl
@[simp] theorem Reply.turnedAway_state (c : Status) : (Reply.turnedAway s c).state = s := rfl
@[simp] theorem Reply.turnedAway_status (c : Status) : (Reply.turnedAway s c).status = c := rfl
@[simp] theorem Reply.turnedAway_data (c : Status) : (Reply.turnedAway s c).data = [] := rfl

end Sys2Proof.Machine
end

