-- ==== Sys2Proof/Laws/Ops.lean ====
section
/-! SUPPORT. What the shared operations can do, said once: the fixed collections, the counting of notices, captures, the
admission attempt, the redrop of a candidate and the window start. -/

namespace Sys2Proof

/-! ### Fixed collections -/

@[simp] theorem setAt_getElem {α : Type} {n : Nat} (v : Vector α n) (i : Fin n) (x : α) (j : Nat) (h : j < n) :
    (setAt v i x)[j] = if i.val = j then x else v[j] := by
  simp [setAt, Vector.getElem_set]

@[simp] theorem mapAll_getElem {α β : Type} {n : Nat} (f : α → β) (v : Vector α n) (j : Nat) (h : j < n) :
    (mapAll f v)[j] = f v[j] := by
  simp [mapAll]

theorem mapAll_id_of {α : Type} {n : Nat} (f : α → α) (v : Vector α n) (h : ∀ i : Fin n, f v[i] = v[i]) :
    mapAll f v = v := by
  ext j hj
  simpa using h ⟨j, hj⟩

/-- Replacing a member by itself changes nothing. -/
theorem setAt_self {α : Type} {n : Nat} (v : Vector α n) (i : Fin n) : setAt v i v[i] = v := by
  ext j hj
  simp only [setAt_getElem]
  split
  · subst_vars; rfl
  · rfl

namespace Machine

variable (s : State)

/-! ### Captures, notices and samples touch the books alone -/

theorem State.emit_nil : s.emit [] = s := rfl

theorem State.emit_cons (n : Notice) (ns : List Notice) : s.emit (n :: ns) = (s.takeNotice n).emit ns := rfl

/-- Taking notices changes nothing but the accounting unit, the capture queue and the alert unit (R121). -/
theorem State.emit_eq (ns : List Notice) : s.emit ns = s.withBooks (s.emit ns).books := by
  induction ns generalizing s with
  | nil => rfl
  | cons n ns ih =>
    rw [State.emit_cons, ih]
    rfl

@[simp] theorem State.captureAttempt_port (k : CaptureCause) (n : Option (BitVec 32)) (b : Vector Int 16) : (s.captureAttempt k n b).port = s.port := rfl
@[simp] theorem State.captureAttempt_streams (k : CaptureCause) (n : Option (BitVec 32)) (b : Vector Int 16) : (s.captureAttempt k n b).streams = s.streams := rfl
@[simp] theorem State.captureAttempt_entries (k : CaptureCause) (n : Option (BitVec 32)) (b : Vector Int 16) : (s.captureAttempt k n b).entries = s.entries := rfl
@[simp] theorem State.captureAttempt_nextId (k : CaptureCause) (n : Option (BitVec 32)) (b : Vector Int 16) : (s.captureAttempt k n b).nextId = s.nextId := rfl
@[simp] theorem State.captureAttempt_slots (k : CaptureCause) (n : Option (BitVec 32)) (b : Vector Int 16) : (s.captureAttempt k n b).slots = s.slots := rfl
@[simp] theorem State.captureAttempt_timeout (k : CaptureCause) (n : Option (BitVec 32)) (b : Vector Int 16) : (s.captureAttempt k n b).timeout = s.timeout := rfl
@[simp] theorem State.captureAttempt_candidate (k : CaptureCause) (n : Option (BitVec 32)) (b : Vector Int 16) : (s.captureAttempt k n b).candidate = s.candidate := rfl
@[simp] theorem State.captureAttempt_replyOrder (k : CaptureCause) (n : Option (BitVec 32)) (b : Vector Int 16) : (s.captureAttempt k n b).replyOrder = s.replyOrder := rfl
@[simp] theorem State.captureAttempt_lastServed (k : CaptureCause) (n : Option (BitVec 32)) (b : Vector Int 16) : (s.captureAttempt k n b).lastServed = s.lastServed := rfl
@[simp] theorem State.captureAttempt_window (k : CaptureCause) (n : Option (BitVec 32)) (b : Vector Int 16) : (s.captureAttempt k n b).window = s.window := rfl
@[simp] theorem State.captureAttempt_mgmt (k : CaptureCause) (n : Option (BitVec 32)) (b : Vector Int 16) : (s.captureAttempt k n b).mgmt = s.mgmt := rfl
@[simp] theorem State.captureAttempt_rst (k : CaptureCause) (n : Option (BitVec 32)) (b : Vector Int 16) : (s.captureAttempt k n b).rst = s.rst := rfl
@[simp] theorem State.captureAttempt_nlrst (k : CaptureCause) (n : Option (BitVec 32)) (b : Vector Int 16) : (s.captureAttempt k n b).nlrst = s.nlrst := rfl
@[simp] theorem State.captureAttempt_northSent (k : CaptureCause) (n : Option (BitVec 32)) (b : Vector Int 16) : (s.captureAttempt k n b).northSent = s.northSent := rfl
@[simp] theorem State.captureAttempt_southSent (k : CaptureCause) (n : Option (BitVec 32)) (b : Vector Int 16) : (s.captureAttempt k n b).southSent = s.southSent := rfl
@[simp] theorem State.captureAttempt_freeDrawn (k : CaptureCause) (n : Option (BitVec 32)) (b : Vector Int 16) : (s.captureAttempt k n b).freeDrawn = s.freeDrawn := rfl
@[simp] theorem State.captureAttempt_pending (k : CaptureCause) (n : Option (BitVec 32)) (b : Vector Int 16) : (s.captureAttempt k n b).pending = s.pending := rfl

@[simp] theorem State.countEvent_port (f : Counter → Counter × Bool) : (s.countEvent f).port = s.port := rfl
@[simp] theorem State.countEvent_streams (f : Counter → Counter × Bool) : (s.countEvent f).streams = s.streams := rfl
@[simp] theorem State.countEvent_entries (f : Counter → Counter × Bool) : (s.countEvent f).entries = s.entries := rfl
@[simp] theorem State.countEvent_nextId (f : Counter → Counter × Bool) : (s.countEvent f).nextId = s.nextId := rfl
@[simp] theorem State.countEvent_slots (f : Counter → Counter × Bool) : (s.countEvent f).slots = s.slots := rfl
@[simp] theorem State.countEvent_timeout (f : Counter → Counter × Bool) : (s.countEvent f).timeout = s.timeout := rfl
@[simp] theorem State.countEvent_candidate (f : Counter → Counter × Bool) : (s.countEvent f).candidate = s.candidate := rfl
@[simp] theorem State.countEvent_replyOrder (f : Counter → Counter × Bool) : (s.countEvent f).replyOrder = s.replyOrder := rfl
@[simp] theorem State.countEvent_lastServed (f : Counter → Counter × Bool) : (s.countEvent f).lastServed = s.lastServed := rfl
@[simp] theorem State.countEvent_window (f : Counter → Counter × Bool) : (s.countEvent f).window = s.window := rfl
@[simp] theorem State.countEvent_mgmt (f : Counter → Counter × Bool) : (s.countEvent f).mgmt = s.mgmt := rfl
@[simp] theorem State.countEvent_rst (f : Counter → Counter × Bool) : (s.countEvent f).rst = s.rst := rfl
@[simp] theorem State.countEvent_nlrst (f : Counter → Counter × Bool) : (s.countEvent f).nlrst = s.nlrst := rfl
@[simp] theorem State.countEvent_northSent (f : Counter → Counter × Bool) : (s.countEvent f).northSent = s.northSent := rfl
@[simp] theorem State.countEvent_southSent (f : Counter → Counter × Bool) : (s.countEvent f).southSent = s.southSent := rfl
@[simp] theorem State.countEvent_freeDrawn (f : Counter → Counter × Bool) : (s.countEvent f).freeDrawn = s.freeDrawn := rfl
@[simp] theorem State.countEvent_pending (f : Counter → Counter × Bool) : (s.countEvent f).pending = s.pending := rfl

@[simp] theorem State.takeNotice_port (n : Notice) : (s.takeNotice n).port = s.port := rfl
@[simp] theorem State.takeNotice_streams (n : Notice) : (s.takeNotice n).streams = s.streams := rfl
@[simp] theorem State.takeNotice_entries (n : Notice) : (s.takeNotice n).entries = s.entries := rfl
@[simp] theorem State.takeNotice_nextId (n : Notice) : (s.takeNotice n).nextId = s.nextId := rfl
@[simp] theorem State.takeNotice_slots (n : Notice) : (s.takeNotice n).slots = s.slots := rfl
@[simp] theorem State.takeNotice_timeout (n : Notice) : (s.takeNotice n).timeout = s.timeout := rfl
@[simp] theorem State.takeNotice_candidate (n : Notice) : (s.takeNotice n).candidate = s.candidate := rfl
@[simp] theorem State.takeNotice_replyOrder (n : Notice) : (s.takeNotice n).replyOrder = s.replyOrder := rfl
@[simp] theorem State.takeNotice_lastServed (n : Notice) : (s.takeNotice n).lastServed = s.lastServed := rfl
@[simp] theorem State.takeNotice_window (n : Notice) : (s.takeNotice n).window = s.window := rfl
@[simp] theorem State.takeNotice_mgmt (n : Notice) : (s.takeNotice n).mgmt = s.mgmt := rfl
@[simp] theorem State.takeNotice_rst (n : Notice) : (s.takeNotice n).rst = s.rst := rfl
@[simp] theorem State.takeNotice_nlrst (n : Notice) : (s.takeNotice n).nlrst = s.nlrst := rfl
@[simp] theorem State.takeNotice_northSent (n : Notice) : (s.takeNotice n).northSent = s.northSent := rfl
@[simp] theorem State.takeNotice_southSent (n : Notice) : (s.takeNotice n).southSent = s.southSent := rfl
@[simp] theorem State.takeNotice_freeDrawn (n : Notice) : (s.takeNotice n).freeDrawn = s.freeDrawn := rfl
@[simp] theorem State.takeNotice_pending (n : Notice) : (s.takeNotice n).pending = s.pending := rfl

@[simp] theorem State.emit_port (ns : List Notice) : (s.emit ns).port = s.port := by rw [State.emit_eq]; rfl
@[simp] theorem State.emit_streams (ns : List Notice) : (s.emit ns).streams = s.streams := by rw [State.emit_eq]; rfl
@[simp] theorem State.emit_entries (ns : List Notice) : (s.emit ns).entries = s.entries := by rw [State.emit_eq]; rfl
@[simp] theorem State.emit_nextId (ns : List Notice) : (s.emit ns).nextId = s.nextId := by rw [State.emit_eq]; rfl
@[simp] theorem State.emit_slots (ns : List Notice) : (s.emit ns).slots = s.slots := by rw [State.emit_eq]; rfl
@[simp] theorem State.emit_timeout (ns : List Notice) : (s.emit ns).timeout = s.timeout := by rw [State.emit_eq]; rfl
@[simp] theorem State.emit_candidate (ns : List Notice) : (s.emit ns).candidate = s.candidate := by rw [State.emit_eq]; rfl
@[simp] theorem State.emit_replyOrder (ns : List Notice) : (s.emit ns).replyOrder = s.replyOrder := by rw [State.emit_eq]; rfl
@[simp] theorem State.emit_lastServed (ns : List Notice) : (s.emit ns).lastServed = s.lastServed := by rw [State.emit_eq]; rfl
@[simp] theorem State.emit_window (ns : List Notice) : (s.emit ns).window = s.window := by rw [State.emit_eq]; rfl
@[simp] theorem State.emit_mgmt (ns : List Notice) : (s.emit ns).mgmt = s.mgmt := by rw [State.emit_eq]; rfl
@[simp] theorem State.emit_rst (ns : List Notice) : (s.emit ns).rst = s.rst := by rw [State.emit_eq]; rfl
@[simp] theorem State.emit_nlrst (ns : List Notice) : (s.emit ns).nlrst = s.nlrst := by rw [State.emit_eq]; rfl
@[simp] theorem State.emit_northSent (ns : List Notice) : (s.emit ns).northSent = s.northSent := by rw [State.emit_eq]; rfl
@[simp] theorem State.emit_southSent (ns : List Notice) : (s.emit ns).southSent = s.southSent := by rw [State.emit_eq]; rfl
@[simp] theorem State.emit_freeDrawn (ns : List Notice) : (s.emit ns).freeDrawn = s.freeDrawn := by rw [State.emit_eq]; rfl
@[simp] theorem State.emit_pending (ns : List Notice) : (s.emit ns).pending = s.pending := by rw [State.emit_eq]; rfl

@[simp] theorem State.sample_port (r : SampleRecord) : (s.sample r).port = s.port := rfl
@[simp] theorem State.sample_streams (r : SampleRecord) : (s.sample r).streams = s.streams := rfl
@[simp] theorem State.sample_entries (r : SampleRecord) : (s.sample r).entries = s.entries := rfl
@[simp] theorem State.sample_nextId (r : SampleRecord) : (s.sample r).nextId = s.nextId := rfl
@[simp] theorem State.sample_slots (r : SampleRecord) : (s.sample r).slots = s.slots := rfl
@[simp] theorem State.sample_timeout (r : SampleRecord) : (s.sample r).timeout = s.timeout := rfl
@[simp] theorem State.sample_candidate (r : SampleRecord) : (s.sample r).candidate = s.candidate := rfl
@[simp] theorem State.sample_replyOrder (r : SampleRecord) : (s.sample r).replyOrder = s.replyOrder := rfl
@[simp] theorem State.sample_lastServed (r : SampleRecord) : (s.sample r).lastServed = s.lastServed := rfl
@[simp] theorem State.sample_window (r : SampleRecord) : (s.sample r).window = s.window := rfl
@[simp] theorem State.sample_mgmt (r : SampleRecord) : (s.sample r).mgmt = s.mgmt := rfl
@[simp] theorem State.sample_rst (r : SampleRecord) : (s.sample r).rst = s.rst := rfl
@[simp] theorem State.sample_nlrst (r : SampleRecord) : (s.sample r).nlrst = s.nlrst := rfl
@[simp] theorem State.sample_northSent (r : SampleRecord) : (s.sample r).northSent = s.northSent := rfl
@[simp] theorem State.sample_southSent (r : SampleRecord) : (s.sample r).southSent = s.southSent := rfl
@[simp] theorem State.sample_freeDrawn (r : SampleRecord) : (s.sample r).freeDrawn = s.freeDrawn := rfl
@[simp] theorem State.sample_pending (r : SampleRecord) : (s.sample r).pending = s.pending := rfl
@[simp] theorem State.sample_capture (r : SampleRecord) : (s.sample r).capture = s.capture := rfl
@[simp] theorem State.sample_alert (r : SampleRecord) : (s.sample r).alert = s.alert := rfl
@[simp] theorem State.sample_accounting (r : SampleRecord) : (s.sample r).accounting = s.accounting.sample r := rfl

@[simp] theorem State.settleSample_port : s.settleSample.port = s.port := rfl
@[simp] theorem State.settleSample_streams : s.settleSample.streams = s.streams := rfl
@[simp] theorem State.settleSample_entries : s.settleSample.entries = s.entries := rfl
@[simp] theorem State.settleSample_nextId : s.settleSample.nextId = s.nextId := rfl
@[simp] theorem State.settleSample_slots : s.settleSample.slots = s.slots := rfl
@[simp] theorem State.settleSample_timeout : s.settleSample.timeout = s.timeout := rfl
@[simp] theorem State.settleSample_candidate : s.settleSample.candidate = s.candidate := rfl
@[simp] theorem State.settleSample_replyOrder : s.settleSample.replyOrder = s.replyOrder := rfl
@[simp] theorem State.settleSample_lastServed : s.settleSample.lastServed = s.lastServed := rfl
@[simp] theorem State.settleSample_window : s.settleSample.window = s.window := rfl
@[simp] theorem State.settleSample_capture : s.settleSample.capture = s.capture := rfl
@[simp] theorem State.settleSample_alert : s.settleSample.alert = s.alert := rfl
@[simp] theorem State.settleSample_mgmt : s.settleSample.mgmt = s.mgmt := rfl
@[simp] theorem State.settleSample_rst : s.settleSample.rst = s.rst := rfl
@[simp] theorem State.settleSample_nlrst : s.settleSample.nlrst = s.nlrst := rfl
@[simp] theorem State.settleSample_northSent : s.settleSample.northSent = s.northSent := rfl
@[simp] theorem State.settleSample_southSent : s.settleSample.southSent = s.southSent := rfl
@[simp] theorem State.settleSample_freeDrawn : s.settleSample.freeDrawn = s.freeDrawn := rfl
@[simp] theorem State.settleSample_pending : s.settleSample.pending = s.pending := rfl
@[simp] theorem State.settleSample_accounting : s.settleSample.accounting = s.accounting.settle := rfl

@[simp] theorem State.drawOrder_port : s.drawOrder.port = s.port := rfl
@[simp] theorem State.drawOrder_streams : s.drawOrder.streams = s.streams := rfl
@[simp] theorem State.drawOrder_entries : s.drawOrder.entries = s.entries := rfl
@[simp] theorem State.drawOrder_nextId : s.drawOrder.nextId = s.nextId := rfl
@[simp] theorem State.drawOrder_slots : s.drawOrder.slots = s.slots := rfl
@[simp] theorem State.drawOrder_timeout : s.drawOrder.timeout = s.timeout := rfl
@[simp] theorem State.drawOrder_candidate : s.drawOrder.candidate = s.candidate := rfl
@[simp] theorem State.drawOrder_replyOrder : s.drawOrder.replyOrder = s.replyOrder := rfl
@[simp] theorem State.drawOrder_lastServed : s.drawOrder.lastServed = s.lastServed := rfl
@[simp] theorem State.drawOrder_window : s.drawOrder.window = s.window := rfl
@[simp] theorem State.drawOrder_capture : s.drawOrder.capture = s.capture := rfl
@[simp] theorem State.drawOrder_alert : s.drawOrder.alert = s.alert := rfl
@[simp] theorem State.drawOrder_mgmt : s.drawOrder.mgmt = s.mgmt := rfl
@[simp] theorem State.drawOrder_rst : s.drawOrder.rst = s.rst := rfl
@[simp] theorem State.drawOrder_nlrst : s.drawOrder.nlrst = s.nlrst := rfl
@[simp] theorem State.drawOrder_northSent : s.drawOrder.northSent = s.northSent := rfl
@[simp] theorem State.drawOrder_southSent : s.drawOrder.southSent = s.southSent := rfl
@[simp] theorem State.drawOrder_freeDrawn : s.drawOrder.freeDrawn = s.freeDrawn + 1 := rfl
@[simp] theorem State.drawOrder_pending : s.drawOrder.pending = s.pending := rfl
@[simp] theorem State.drawOrder_accounting : s.drawOrder.accounting = { s.accounting with sampleDue := none } := rfl

/-- The freeze by a wrap changes the books alone (R132). -/
theorem State.freezeBy_eq (i : CounterIx) : s.freezeBy i = s.withBooks (s.freezeBy i).books := by
  unfold State.freezeBy
  dsimp only
  split <;> rfl

/-- The capture queue's part of a window report changes the books alone (R153). -/
theorem State.periodicCapture_eq (r : WindowReport) : s.periodicCapture r = s.withBooks (s.periodicCapture r).books := by
  unfold State.periodicCapture
  split
  · rfl
  · split <;> rfl

/-- A window report changes the books alone (R124). -/
theorem State.takeReport_eq (r : WindowReport) : s.takeReport r = s.withBooks (s.takeReport r).books := by
  unfold State.takeReport
  rw [State.periodicCapture_eq]
  rfl

@[simp] theorem State.takeReport_port (r : WindowReport) : (s.takeReport r).port = s.port := by rw [State.takeReport_eq]; rfl
@[simp] theorem State.takeReport_streams (r : WindowReport) : (s.takeReport r).streams = s.streams := by rw [State.takeReport_eq]; rfl
@[simp] theorem State.takeReport_entries (r : WindowReport) : (s.takeReport r).entries = s.entries := by rw [State.takeReport_eq]; rfl
@[simp] theorem State.takeReport_nextId (r : WindowReport) : (s.takeReport r).nextId = s.nextId := by rw [State.takeReport_eq]; rfl
@[simp] theorem State.takeReport_slots (r : WindowReport) : (s.takeReport r).slots = s.slots := by rw [State.takeReport_eq]; rfl
@[simp] theorem State.takeReport_timeout (r : WindowReport) : (s.takeReport r).timeout = s.timeout := by rw [State.takeReport_eq]; rfl
@[simp] theorem State.takeReport_candidate (r : WindowReport) : (s.takeReport r).candidate = s.candidate := by rw [State.takeReport_eq]; rfl
@[simp] theorem State.takeReport_replyOrder (r : WindowReport) : (s.takeReport r).replyOrder = s.replyOrder := by rw [State.takeReport_eq]; rfl
@[simp] theorem State.takeReport_lastServed (r : WindowReport) : (s.takeReport r).lastServed = s.lastServed := by rw [State.takeReport_eq]; rfl
@[simp] theorem State.takeReport_window (r : WindowReport) : (s.takeReport r).window = s.window := by rw [State.takeReport_eq]; rfl
@[simp] theorem State.takeReport_mgmt (r : WindowReport) : (s.takeReport r).mgmt = s.mgmt := by rw [State.takeReport_eq]; rfl
@[simp] theorem State.takeReport_rst (r : WindowReport) : (s.takeReport r).rst = s.rst := by rw [State.takeReport_eq]; rfl
@[simp] theorem State.takeReport_nlrst (r : WindowReport) : (s.takeReport r).nlrst = s.nlrst := by rw [State.takeReport_eq]; rfl
@[simp] theorem State.takeReport_northSent (r : WindowReport) : (s.takeReport r).northSent = s.northSent := by rw [State.takeReport_eq]; rfl
@[simp] theorem State.takeReport_southSent (r : WindowReport) : (s.takeReport r).southSent = s.southSent := by rw [State.takeReport_eq]; rfl
@[simp] theorem State.takeReport_freeDrawn (r : WindowReport) : (s.takeReport r).freeDrawn = s.freeDrawn := by rw [State.takeReport_eq]; rfl
@[simp] theorem State.takeReport_pending (r : WindowReport) : (s.takeReport r).pending = s.pending := by rw [State.takeReport_eq]; rfl

/-! ### The views of the state that the books do not enter -/

@[simp] theorem State.withBooks_waitingCount (b : Books) (i : StreamIx) : (s.withBooks b).waitingCount i = s.waitingCount i := rfl
@[simp] theorem State.withBooks_owedCount (b : Books) (i : StreamIx) : (s.withBooks b).owedCount i = s.owedCount i := rfl
@[simp] theorem State.withBooks_poolHeld (b : Books) (i : StreamIx) : (s.withBooks b).poolHeld i = s.poolHeld i := rfl
@[simp] theorem State.withBooks_waitingTotal (b : Books) : (s.withBooks b).waitingTotal = s.waitingTotal  := rfl
@[simp] theorem State.withBooks_owedTotal (b : Books) : (s.withBooks b).owedTotal = s.owedTotal  := rfl
@[simp] theorem State.withBooks_poolInUse (b : Books) : (s.withBooks b).poolInUse = s.poolInUse  := rfl
@[simp] theorem State.withBooks_poolFree (b : Books) : (s.withBooks b).poolFree = s.poolFree  := rfl
@[simp] theorem State.withBooks_slotsNotFree (b : Books) : (s.withBooks b).slotsNotFree = s.slotsNotFree  := rfl
@[simp] theorem State.withBooks_lowestFree (b : Books) : (s.withBooks b).lowestFree = s.lowestFree  := rfl
@[simp] theorem State.withBooks_gate (b : Books) (i : StreamIx) : (s.withBooks b).gate i = s.gate i := rfl
@[simp] theorem State.withBooks_head (b : Books) (i : StreamIx) : (s.withBooks b).head i = s.head i := rfl
@[simp] theorem State.withBooks_chooseHead (b : Books) : (s.withBooks b).chooseHead = s.chooseHead  := rfl
@[simp] theorem State.withBooks_northChoice (b : Books) : (s.withBooks b).northChoice = s.northChoice  := rfl
@[simp] theorem State.withBooks_classify (b : Books) (r : Request) : (s.withBooks b).classify r = s.classify r := rfl
@[simp] theorem State.withBooks_streamFor (b : Books) (r : Request) : (s.withBooks b).streamFor r = s.streamFor r := rfl
@[simp] theorem State.withBooks_verdict (b : Books) (r : Request) : (s.withBooks b).verdict r = s.verdict r := rfl
@[simp] theorem State.emit_waitingCount (ns : List Notice) (i : StreamIx) : (s.emit ns).waitingCount i = s.waitingCount i := by
  rw [State.emit_eq]; rfl
@[simp] theorem State.emit_owedCount (ns : List Notice) (i : StreamIx) : (s.emit ns).owedCount i = s.owedCount i := by
  rw [State.emit_eq]; rfl
@[simp] theorem State.emit_poolHeld (ns : List Notice) (i : StreamIx) : (s.emit ns).poolHeld i = s.poolHeld i := by
  rw [State.emit_eq]; rfl
@[simp] theorem State.emit_waitingTotal (ns : List Notice) : (s.emit ns).waitingTotal = s.waitingTotal  := by
  rw [State.emit_eq]; rfl
@[simp] theorem State.emit_owedTotal (ns : List Notice) : (s.emit ns).owedTotal = s.owedTotal  := by
  rw [State.emit_eq]; rfl
@[simp] theorem State.emit_poolInUse (ns : List Notice) : (s.emit ns).poolInUse = s.poolInUse  := by
  rw [State.emit_eq]; rfl
@[simp] theorem State.emit_poolFree (ns : List Notice) : (s.emit ns).poolFree = s.poolFree  := by
  rw [State.emit_eq]; rfl
@[simp] theorem State.emit_slotsNotFree (ns : List Notice) : (s.emit ns).slotsNotFree = s.slotsNotFree  := by
  rw [State.emit_eq]; rfl
@[simp] theorem State.emit_lowestFree (ns : List Notice) : (s.emit ns).lowestFree = s.lowestFree  := by
  rw [State.emit_eq]; rfl
@[simp] theorem State.emit_gate (ns : List Notice) (i : StreamIx) : (s.emit ns).gate i = s.gate i := by
  rw [State.emit_eq]; rfl
@[simp] theorem State.emit_head (ns : List Notice) (i : StreamIx) : (s.emit ns).head i = s.head i := by
  rw [State.emit_eq]; rfl
@[simp] theorem State.emit_chooseHead (ns : List Notice) : (s.emit ns).chooseHead = s.chooseHead  := by
  rw [State.emit_eq]; rfl
@[simp] theorem State.emit_northChoice (ns : List Notice) : (s.emit ns).northChoice = s.northChoice  := by
  rw [State.emit_eq]; rfl
@[simp] theorem State.emit_classify (ns : List Notice) (r : Request) : (s.emit ns).classify r = s.classify r := by
  rw [State.emit_eq]; rfl
@[simp] theorem State.emit_streamFor (ns : List Notice) (r : Request) : (s.emit ns).streamFor r = s.streamFor r := by
  rw [State.emit_eq]; rfl
@[simp] theorem State.emit_verdict (ns : List Notice) (r : Request) : (s.emit ns).verdict r = s.verdict r := by
  rw [State.emit_eq]; rfl

/-! ### Counting -/

/-- Everything that handing over a sample record can do (R116, R147). -/
theorem State.handSample_cases (r : SampleRecord) :
    (s.inFrame = true ∧ s.handSample r = { s with accounting := { s.accounting with sampleDue := some r } }) ∨
      (s.inFrame = false ∧ s.handSample r = s.sample r) := by
  unfold State.handSample
  cases s.inFrame <;> simp

/-- A sample offered to the accounting unit changes the histogram alone (R141). -/
@[simp] theorem AccountingUnit.sample_counters (r : SampleRecord) (u : AccountingUnit) :
    (u.sample r).counters = u.counters := by
  unfold AccountingUnit.sample; split <;> rfl
@[simp] theorem AccountingUnit.sample_state (r : SampleRecord) (u : AccountingUnit) : (u.sample r).state = u.state := by
  unfold AccountingUnit.sample; split <;> rfl
@[simp] theorem AccountingUnit.sample_sampleDue (r : SampleRecord) (u : AccountingUnit) :
    (u.sample r).sampleDue = u.sampleDue := by
  unfold AccountingUnit.sample; split <;> rfl

/-- While FROZEN no sample is taken (R141). -/
theorem AccountingUnit.sample_frozen {r : SampleRecord} {u : AccountingUnit} {c : FreezeCause}
    (h : u.state = .frozen c) : u.sample r = u := by
  simp [AccountingUnit.sample, h]

/-- Everything that offering the sample due can do (R116). -/
theorem AccountingUnit.settle_none {u : AccountingUnit} (h : u.sampleDue = none) : u.settle = u := by
  simp [AccountingUnit.settle, h]
theorem AccountingUnit.settle_some {u : AccountingUnit} {r : SampleRecord} (h : u.sampleDue = some r) :
    u.settle = ({ u with sampleDue := none } : AccountingUnit).sample r := by
  simp [AccountingUnit.settle, h]

/-- After it no sample is due. -/
@[simp] theorem AccountingUnit.settle_sampleDue (u : AccountingUnit) : u.settle.sampleDue = none := by
  unfold AccountingUnit.settle
  split
  · simp
  · assumption

/-- With no sample due, offering one is no change. -/
theorem State.settleSample_none (h : s.accounting.sampleDue = none) : s.settleSample = s := by
  unfold State.settleSample
  rw [AccountingUnit.settle_none h]

/-- With one due, it is offered. -/
theorem State.settleSample_some {r : SampleRecord} (h : s.accounting.sampleDue = some r) :
    s.settleSample = ({ s with accounting := { s.accounting with sampleDue := none } } : State).sample r := by
  unfold State.settleSample
  rw [AccountingUnit.settle_some h]; rfl

/-- A counting event is that of the part with the sample due taken (R116). -/
theorem State.countEvent_settleSample (f : Counter → Counter × Bool) :
    s.countEvent f = s.settleSample.countEvent f := by
  unfold State.countEvent
  rw [s.settleSample.settleSample_none (by simp)]

/-- With no sample due, a counting event while FROZEN changes nothing (R131). -/
theorem State.countEvent_frozen (f : Counter → Counter × Bool) (c : FreezeCause)
    (h : s.accounting.state = .frozen c) (hd : s.accounting.sampleDue = none) : s.countEvent f = s := by
  unfold State.countEvent
  rw [s.settleSample_none hd]
  simp [State.count, h]

/-- A counter takes a notice whole or is left as it is (R127). -/
theorem Counter.takeNotice_cases (n : Notice) (c : Counter) :
    (c.takeNotice n = c.add n.quantity ∧ c.config.enable = true ∧ c.config.event = n.event) ∨ c.takeNotice n = (c, false) := by
  unfold Counter.takeNotice
  split
  · next h => simp only [Bool.and_eq_true, beq_iff_eq] at h; exact .inl ⟨rfl, h.1.1.1, h.1.1.2⟩
  · exact .inr rfl

/-- An add keeps the configuration and the edge memory (R130). -/
@[simp] theorem Counter.add_config (c : Counter) (q : Nat) : (c.add q).1.config = c.config := rfl
@[simp] theorem Counter.add_edgeMemory (c : Counter) (q : Nat) : (c.add q).1.edgeMemory = c.edgeMemory := rfl

@[simp] theorem Counter.takeNotice_config (n : Notice) (c : Counter) : (c.takeNotice n).1.config = c.config := by
  unfold Counter.takeNotice; split <;> rfl

@[simp] theorem Counter.takeSample_config (q : Nat) (c : Counter) : (c.takeSample q).1.config = c.config := by
  unfold Counter.takeSample
  dsimp only
  split <;> split <;> rfl

@[simp] theorem Counter.takeReport_config (r : WindowReport) (c : Counter) : (c.takeReport r).1.config = c.config := by
  unfold Counter.takeReport
  split
  · simp
  · split
    · split
      · simp
      · rfl
    · rfl

/-! ### The admission attempt -/

/-- Every outcome of an admission attempt (R71), by its verdict. -/
theorem State.attempt_cases (r : Request) :
    (∃ i, s.verdict r = .stall i ∧ s.attempt r = s.stall r i) ∨
      (∃ k i, s.verdict r = .owe k i ∧ s.attempt r = s.admitOwed r k i) ∨
      (∃ i, s.verdict r = .enter i ∧ s.attempt r = s.admitWaiting r i) := by
  unfold State.attempt
  cases h : s.verdict r with
  | stall i => exact .inl ⟨i, rfl, rfl⟩
  | owe k i => exact .inr (.inl ⟨k, i, rfl, rfl⟩)
  | enter i => exact .inr (.inr ⟨i, rfl, rfl⟩)

/-- What a verdict says of the request and the part (TABLE 41), condition by condition. -/
theorem State.verdict_full {r : Request} (h : 32 ≤ s.entries.length) : s.verdict r = .stall (s.streamFor r) :=
  if_pos h

theorem State.verdict_malformed {r : Request} (h : s.entries.length < 32) (hm : malformed r = true) :
    s.verdict r = .owe .malformed 0 :=
  (if_neg (Nat.not_le.mpr h)).trans (if_pos hm)

theorem State.verdict_room {r : Request} (h : s.entries.length < 32) (hm : malformed r = false)
    (hr : s.lacksRoom r (s.classify r) = false) : s.verdict r = .enter (s.classify r) := by
  have hs : s.streamFor r = s.classify r := by simp [State.streamFor, hm]
  refine (if_neg (Nat.not_le.mpr h)).trans ((if_neg (by simp [hm])).trans ((if_neg ?_).trans ?_))
  · rw [hs, hr]; simp
  · rw [hs]

theorem State.verdict_noRoom {r : Request} (h : s.entries.length < 32) (hm : malformed r = false)
    (hr : s.lacksRoom r (s.classify r) = true) :
    s.verdict r =
      match s.streams[s.classify r].policy with
      | .refuse => .owe .refused (s.classify r)
      | .stall => .stall (s.classify r) := by
  have key : ∀ j, s.streamFor r = j → s.lacksRoom r j = true →
      s.verdict r =
        match s.streams[j].policy with
        | .refuse => .owe .refused j
        | .stall => .stall j := by
    rintro j rfl hj
    exact (if_neg (Nat.not_le.mpr h)).trans ((if_neg (by simp [hm])).trans (if_pos hj))
  exact key _ (by simp [State.streamFor, hm]) hr

theorem State.verdict_admit {r : Request} {i : StreamIx} (h : s.verdict r = .enter i) :
    s.entries.length < 32 ∧ malformed r = false ∧ i = s.classify r ∧ s.lacksRoom r i = false := by
  by_cases h1 : s.entries.length < 32
  · cases hm : malformed r with
    | true => rw [s.verdict_malformed h1 hm] at h; cases h
    | false =>
      cases hr : s.lacksRoom r (s.classify r) with
      | true =>
        rw [s.verdict_noRoom h1 hm hr] at h
        cases hp : s.streams[s.classify r].policy <;> rw [hp] at h <;> cases h
      | false =>
        rw [s.verdict_room h1 hm hr] at h
        cases h
        exact ⟨h1, rfl, rfl, hr⟩
  · rw [s.verdict_full (Nat.not_lt.mp h1)] at h; cases h

theorem State.verdict_owe {r : Request} {k : ReplyKind} {i : StreamIx} (h : s.verdict r = .owe k i) :
    s.entries.length < 32 ∧
      ((k = .malformed ∧ i = 0 ∧ malformed r = true) ∨
        (k = .refused ∧ i = s.classify r ∧ malformed r = false ∧ s.lacksRoom r i = true ∧
          s.streams[i].policy = .refuse)) := by
  by_cases h1 : s.entries.length < 32
  · cases hm : malformed r with
    | true => rw [s.verdict_malformed h1 hm] at h; cases h; exact ⟨h1, .inl ⟨rfl, rfl, rfl⟩⟩
    | false =>
      cases hr : s.lacksRoom r (s.classify r) with
      | true =>
        rw [s.verdict_noRoom h1 hm hr] at h
        cases hp : s.streams[s.classify r].policy with
        | refuse => rw [hp] at h; cases h; exact ⟨h1, .inr ⟨rfl, rfl, rfl, hr, hp⟩⟩
        | stall => rw [hp] at h; cases h
      | false => rw [s.verdict_room h1 hm hr] at h; cases h
  · rw [s.verdict_full (Nat.not_lt.mp h1)] at h; cases h

theorem State.verdict_stall {r : Request} {i : StreamIx} (h : s.verdict r = .stall i) :
    i = s.streamFor r ∧
      (32 ≤ s.entries.length ∨
        (malformed r = false ∧ s.lacksRoom r i = true ∧ s.streams[i].policy = .stall)) := by
  by_cases h1 : s.entries.length < 32
  · cases hm : malformed r with
    | true => rw [s.verdict_malformed h1 hm] at h; cases h
    | false =>
      cases hr : s.lacksRoom r (s.classify r) with
      | true =>
        rw [s.verdict_noRoom h1 hm hr] at h
        cases hp : s.streams[s.classify r].policy with
        | refuse => rw [hp] at h; cases h
        | stall =>
          rw [hp] at h; cases h
          exact ⟨by simp [State.streamFor, hm], .inr ⟨rfl, hr, hp⟩⟩
      | false => rw [s.verdict_room h1 hm hr] at h; cases h
  · rw [s.verdict_full (Nat.not_lt.mp h1)] at h; cases h; exact ⟨rfl, .inl (Nat.not_lt.mp h1)⟩

/-- A retry is an attempt on the stalled arrival, or nothing (R76). -/
theorem State.retry_cases :
    (∃ r i, s.port = .stalled r i ∧ s.retry = s.attempt r) ∨ ((∀ r i, s.port ≠ .stalled r i) ∧ s.retry = s) := by
  unfold State.retry
  cases h : s.port with
  | stalled r i => exact .inl ⟨r, i, rfl, rfl⟩
  | accepting => exact .inr ⟨by simp, rfl⟩
  | linkReset => exact .inr ⟨by simp, rfl⟩

/-! ### Candidates, windows and frames -/

/-- Every outcome of taking the held candidate again (R97, R103). -/
theorem State.redropCandidate_cases :
    s.redropCandidate = (s, []) ∨
      ∃ c q, s.candidate = some c ∧ s.slots[c.slot].use = .busy .orphaned q ∧
        s.redropCandidate =
          ({ s with candidate := none, slots := setAt s.slots c.slot s.slots[c.slot].freed }, [s.lateNotice q]) := by
  unfold State.redropCandidate
  cases hc : s.candidate with
  | none => exact .inl rfl
  | some c =>
    cases hu : s.slots[c.slot].use with
    | free => exact .inl (by simp only [Slot.orphan, hu])
    | busy g q =>
      cases g with
      | orphaned => exact .inr ⟨c, q, rfl, hu, by simp only [Slot.orphan, hu]⟩
      | issued => exact .inl (by simp only [Slot.orphan, hu])
      | timedOut => exact .inl (by simp only [Slot.orphan, hu])

/-- A window start changes the window generator, the stream table and the books alone (R38, R40). -/
theorem State.windowStart_eq :
    s.windowStart =
      ({ s with
          window := { s.window.start with running := true }
          streams := mapAll StreamEntry.windowStart s.streams } : State).withBooks s.windowStart.books := by
  unfold State.windowStart
  split
  · rw [State.takeReport_eq]; rfl
  · rfl

/-- A frame that the port has received is answered by the owner of its command (TABLE 80, line 7). -/
theorem State.runCommand_inFrame (code : Byte) (owner : State → Reply) (h : s.inFrame = true)
    (hd : s.accounting.sampleDue = none) :
    s.runCommand code owner = (owner s).state.answered code (owner s).status (owner s).data := by
  simp [State.runCommand, State.serve, h, hd, s.settleSample_none hd]

/-- A command that may not fall between a notice and its sample finds the sample taken (R112, R141). -/
theorem State.runCommand_settles (code : Byte) (owner : State → Reply) (h : s.inFrame = true)
    (hf : fallsBetween code = false) : s.runCommand code owner = s.settleSample.serve code owner := by
  simp [State.runCommand, h, hf]

/-- A command that falls between a notice and its sample is taken before the sample or after it (R147). -/
theorem State.runCommand_sampleDue (code : Byte) (owner : State → Reply) {r : SampleRecord} (h : s.inFrame = true)
    (hf : fallsBetween code = true) (hd : s.accounting.sampleDue = some r) :
    s.runCommand code owner =
      if Config.commandFirst s.freeDrawn then (s.drawOrder.runCommand code owner).sample r
      else (s.drawOrder.sample r).runCommand code owner := by
  have h1 : s.drawOrder.inFrame = true := h
  have h2 : (s.drawOrder.sample r).inFrame = true := h
  rw [s.drawOrder.runCommand_inFrame code owner h1 rfl,
    (s.drawOrder.sample r).runCommand_inFrame code owner h2 (by simp)]
  simp only [State.runCommand, State.serve, h, hf, hd, if_true]

/-- The answer to a frame and a sample touch different parts of the state. -/
theorem State.answered_sample (code : Byte) (st : Status) (d : List Byte) (r : SampleRecord) :
    (s.answered code st d).sample r = (s.sample r).answered code st d := rfl

/-- A frame that the port has not received ends with no effect (R163). -/
theorem State.runCommand_notInFrame (code : Byte) (owner : State → Reply) (h : s.inFrame = false) :
    s.runCommand code owner = s.deselect := by
  simp [State.runCommand, h]

end Machine

end Sys2Proof
end

