-- ==== Sys2Proof/Laws/PerInstr.lean ====
section
/-! SUPPORT. One family of statements made per command: FrameLength, that every command frame has the length TABLE 86
gives its code. -/

namespace Sys2Proof.Laws

/-- `n` bytes of a number are `n` bytes (R177). -/
@[simp] theorem leBytes_length (n v : Nat) : (leBytes n v).length = n := by
  induction n generalizing v with
  | zero => rfl
  | succ n ih => simp [leBytes, ih]

/-- Entries of one length each, put one behind another. -/
theorem flatMap_length {α β : Type} (f : α → List β) (k : Nat) (l : List α) (h : ∀ a, (f a).length = k) :
    (l.flatMap f).length = k * l.length := by
  induction l with
  | nil => rfl
  | cons a l ih => simp [List.flatMap_cons, h, ih, Nat.mul_add, Nat.add_comm]

namespace FrameLength

/-- The command's code is in TABLE 86 and its arguments have the length that the table gives (R175); an event that is
no command frame has no code. -/
def Statement (i : Instr) : Prop :=
  ∀ bs, commandBytes i = some bs → ∃ code args, bs = code :: args ∧ argBytes code = some args.length

theorem arrival (m : LinkMessage) : Statement (.arrival m) := by
  intro bs h; cases h

theorem issue : Statement .issue := by
  intro bs h; cases h

theorem southResponseIntake (m : LinkMessage) : Statement (.southResponseIntake m) := by
  intro bs h; cases h

theorem forwarding : Statement .forwarding := by
  intro bs h; cases h

theorem timeoutReply : Statement .timeoutReply := by
  intro bs h; cases h

theorem owedReply : Statement .owedReply := by
  intro bs h; cases h

theorem microtick : Statement .microtick := by
  intro bs h; cases h

theorem expiry : Statement .expiry := by
  intro bs h; cases h

theorem windowStartEvent : Statement .windowStartEvent := by
  intro bs h; cases h

theorem phaseOpen (m : ChannelIx) : Statement (.phaseOpen m) := by
  intro bs h; cases h

theorem phaseClose (m : ChannelIx) : Statement (.phaseClose m) := by
  intro bs h; cases h

theorem nlrstAssert : Statement .nlrstAssert := by
  intro bs h; cases h

theorem nlrstRelease : Statement .nlrstRelease := by
  intro bs h; cases h

theorem rstAssert : Statement .rstAssert := by
  intro bs h; cases h

theorem rstRelease : Statement .rstRelease := by
  intro bs h; cases h

theorem frameIgnored : Statement .frameIgnored := by
  intro bs h; cases h

theorem frameError (m : List Bool) : Statement (.frameError m) := by
  intro bs h; cases h

theorem nop (m : List Bool) : Statement (.nop m) := by
  intro bs h; cases h

theorem readStatus : Statement .readStatus := by
  intro bs h; cases h; exact ⟨_, _, rfl, rfl⟩

theorem softReset : Statement .softReset := by
  intro bs h; cases h; exact ⟨_, _, rfl, rfl⟩

theorem tickSet (x : BitVec 16) : Statement (.tickSet x) := by
  intro bs h; cases h; exact ⟨_, _, rfl, rfl⟩

theorem streamWrite (x : StreamWriteArgs) : Statement (.streamWrite x) := by
  intro bs h; cases h; exact ⟨_, _, rfl, rfl⟩

theorem streamRead (x : Byte) : Statement (.streamRead x) := by
  intro bs h; cases h; exact ⟨_, _, rfl, rfl⟩

theorem streamDelete (x : Byte) : Statement (.streamDelete x) := by
  intro bs h; cases h; exact ⟨_, _, rfl, rfl⟩

theorem streamPause (x : Byte) : Statement (.streamPause x) := by
  intro bs h; cases h; exact ⟨_, _, rfl, rfl⟩

theorem streamResume (x : Byte) : Statement (.streamResume x) := by
  intro bs h; cases h; exact ⟨_, _, rfl, rfl⟩

theorem streamPurge (x : Byte) : Statement (.streamPurge x) := by
  intro bs h; cases h; exact ⟨_, _, rfl, rfl⟩

theorem windowSet (x : WindowSetArgs) : Statement (.windowSet x) := by
  intro bs h; cases h
  refine ⟨_, _, rfl, ?_⟩
  simp [encodeWindowSet, flatMap_length _ 4]
  rfl

theorem windowStart : Statement .windowStart := by
  intro bs h; cases h; exact ⟨_, _, rfl, rfl⟩

theorem windowStop : Statement .windowStop := by
  intro bs h; cases h; exact ⟨_, _, rfl, rfl⟩

theorem windowRead : Statement .windowRead := by
  intro bs h; cases h; exact ⟨_, _, rfl, rfl⟩

theorem timeoutSet (x : BitVec 24) : Statement (.timeoutSet x) := by
  intro bs h; cases h; exact ⟨_, _, rfl, rfl⟩

theorem slotRead (x : Byte) : Statement (.slotRead x) := by
  intro bs h; cases h; exact ⟨_, _, rfl, rfl⟩

theorem reclaim (x : Byte) : Statement (.reclaim x) := by
  intro bs h; cases h; exact ⟨_, _, rfl, rfl⟩

theorem counterSet (x : CounterSetArgs) : Statement (.counterSet x) := by
  intro bs h; cases h; exact ⟨_, _, rfl, rfl⟩

theorem counterWrite (x : Byte) (y : BitVec 40) : Statement (.counterWrite x y) := by
  intro bs h; cases h; exact ⟨_, _, rfl, rfl⟩

theorem counterRead (x : Byte) : Statement (.counterRead x) := by
  intro bs h; cases h; exact ⟨_, _, rfl, rfl⟩

theorem freeze : Statement .freeze := by
  intro bs h; cases h; exact ⟨_, _, rfl, rfl⟩

theorem unfreeze : Statement .unfreeze := by
  intro bs h; cases h; exact ⟨_, _, rfl, rfl⟩

theorem overflowClear (x : Byte) : Statement (.overflowClear x) := by
  intro bs h; cases h; exact ⟨_, _, rfl, rfl⟩

theorem histogramSet (x : HistogramSetArgs) : Statement (.histogramSet x) := by
  intro bs h; cases h
  refine ⟨_, _, rfl, ?_⟩
  simp [encodeHistogramSet, flatMap_length _ 3]
  rfl

theorem histogramRead (x : Byte) : Statement (.histogramRead x) := by
  intro bs h; cases h; exact ⟨_, _, rfl, rfl⟩

theorem histogramClear : Statement .histogramClear := by
  intro bs h; cases h; exact ⟨_, _, rfl, rfl⟩

theorem captureSet (x : Byte) (y : Byte) : Statement (.captureSet x y) := by
  intro bs h; cases h; exact ⟨_, _, rfl, rfl⟩

theorem captureNow : Statement .captureNow := by
  intro bs h; cases h; exact ⟨_, _, rfl, rfl⟩

theorem captureRead (x : Byte) : Statement (.captureRead x) := by
  intro bs h; cases h; exact ⟨_, _, rfl, rfl⟩

theorem captureRelease : Statement .captureRelease := by
  intro bs h; cases h; exact ⟨_, _, rfl, rfl⟩

theorem alertRead : Statement .alertRead := by
  intro bs h; cases h; exact ⟨_, _, rfl, rfl⟩

theorem alertAck (x : Byte) : Statement (.alertAck x) := by
  intro bs h; cases h; exact ⟨_, _, rfl, rfl⟩

theorem alertMask (x : Byte) : Statement (.alertMask x) := by
  intro bs h; cases h; exact ⟨_, _, rfl, rfl⟩

theorem selFallingEdge : Statement .selFallingEdge := by
  intro bs h; cases h

end FrameLength

end Sys2Proof.Laws
end

