-- ==== Sys2Proof/Tests/Slice0.lean ====
section
/-! SUPPORT. The author's own tests: ill-formed terms that WellFormed refuses, the worked values of the manual,
one-step tests whose expected results are the manual's, and for each statement with hypotheses a witness that meets
them. -/

namespace Sys2Proof.Tests

open Sys2Proof.Machine

/- The tests are checked one after another: each waits for the kernel, and a thread for each one waiting takes its stack
from the memory the check allows. -/
set_option Elab.async false

/-! ### WellFormed -/

/-- The bits of a frame of these bytes. -/
def wire (bytes : List Byte) : List Bool := bytes.flatMap bitsOf

/-- FRAME_ERROR with a frame that is a NOP, empty, or a correct READ STATUS is no FRAME_ERROR; a frame whose
first byte is not 0x00, or that completes no byte, is no NOP. -/
theorem test_wellFormed_refuses : Instr.wellFormed (.frameError (wire [0x00, 0x12])) = false ∧
    Instr.wellFormed (.frameError []) = false ∧ Instr.wellFormed (.frameError (wire [0x01, 0xF4])) = false ∧
    Instr.wellFormed (.nop (List.replicate 7 false)) = false ∧ Instr.wellFormed (.nop (wire [0x01])) = false := by
  decide +kernel

theorem test_wellFormed_accepts : Instr.wellFormed (.frameError (wire [0x01, 0xF5])) = true ∧
    Instr.wellFormed (.nop (wire [0, 2])) = true ∧ judgeBits (List.replicate 7 true) = .ignored := by
  decide +kernel

/-- R163: READ STATUS, 0x01 and 0xF4, bit by bit, most significant first; three bits more are discarded. -/
theorem test_bits_makeBytes :
    judgeBits [false, false, false, false, false, false, false, true, true, true, true, true, false, true, false, false,
      true, true, true] = .command .readStatus := by decide +kernel

/-! ### Worked values of the manual -/

/-- R178: READ STATUS is the frame 0x01, 0xF4. -/
theorem test_crc_readStatus : encodeFrame .readStatus = some [0x01, 0xF4] := by decide

/-- R178: TICK SET with prescaler 100 is the frame 0x03, 0x64, 0x00, 0x37. -/
theorem test_crc_tickSet : encodeFrame (.tickSet 100) = some [0x03, 0x64, 0x00, 0x37] ∧
    judgeFrame [0x03, 0x64, 0x00, 0x37] = .command (.tickSet 100) := by decide +kernel

/-- TABLE 80: one frame for each line, on the bytes of READ STATUS and TICK SET. -/
theorem test_judgement_lines : judgeFrame [] = .ignored ∧ judgeFrame [0x00, 0xAA] = .nop ∧
    judgeFrame [0x05, 0x01] = .error 0x05 .unknownCmd ∧ judgeFrame [0x03, 0x64] = .error 0x03 .shortFrame ∧
    judgeFrame [0x01, 0xF4, 0x00] = .error 0x01 .longFrame ∧ judgeFrame [0x01, 0xF5] = .error 0x01 .crcError := by
  decide

/-- TABLE 13: south tags. -/
theorem test_southTag : southTag 0 1 = 1 ∧ southTag 5 2 = 0x16 ∧ southTag 41 3 = 0xA7 ∧ southTag 63 3 = 0xFF := by
  decide

/-- A request with the given fields and a number of data units. -/
def request (kind : Kind) (source : BitVec 6) (tag : BitVec 8) (address : BitVec 40) (beats : BitVec 5) (units : Nat) :
    Request :=
  { kind := kind, source := source, tag := tag, address := address, beats := beats, data := List.replicate units 7 }

/-- TABLE 9: malformed requests. -/
theorem test_malformed : malformed (request .read 0 0 0x1F80 8 0) = false ∧ malformed (request .read 0 0 0x1F80 9 0) = true ∧
    malformed (request .write 0 0 0x0F08 1 1) = true ∧ malformed (request .read 0 0 0x3000 0 0) = true ∧
    malformed (request .read 0 0 0x3000 17 0) = true ∧ malformed (request .write 0 0 0x3000 4 3) = true ∧
    malformed (request .read 0 0 0x3000 2 2) = true ∧ malformed (request .write 0 0 0xFFFFFFFF00 16 16) = false ∧
    malformed (request .write 0 0 0xFFFFFFFF10 16 16) = true := by decide

/-- TABLE 85: kind in bit 0, source in bits 1 to 6, tag in 7 to 14, beats in 15 to 19, address in 20 to 59. -/
theorem test_requestHeader :
    Request.ofMessage { header := 0x1028283, data := [] } =
      { kind := .write, source := 1, tag := 5, beats := 5, address := 0x10, data := [] } := by decide

/-- TABLE 70: the bins of the reset boundaries, at their edges. -/
theorem test_bins : (([0, 1, 2, 3, 4, 31, 32, 63, 64, 4294967295] : List Time).map
    (binOf Histogram.reset.config.boundaries)) = [0, 1, 2, 2, 3, 5, 6, 6, 7, 7] := by decide

/-! ### States to step from -/

/-- The part in the middle of its work: a window running, three entries, slots in each state, a candidate, a record in
the capture queue, and a frame begun. -/
def demo : State :=
  { State.reset with
    streams := setAt (setAt State.reset.streams 1
      { valid := true
        fields := { sourceLow := 1, sourceHigh := 2, pageBase := 0, pageLimit := 255
                    kinds := { read := true, write := true } }
        rank := 3, holdLimit := 2, policy := .refuse, paused := false
        active := { budgetEnable := true, allotment := 64, ceiling := 256, phaseBinding := none }
        staged := { budgetEnable := true, allotment := 64, ceiling := 256, phaseBinding := some 0 }
        balance := 10 }) 2
      { valid := true
        fields := { sourceLow := 3, sourceHigh := 63, pageBase := 0, pageLimit := 255
                    kinds := { read := false, write := true } }
        rank := 1, holdLimit := 1, policy := .stall, paused := false
        active := { budgetEnable := false, allotment := 0, ceiling := 4096, phaseBinding := some 0 }
        staged := .reset
        balance := 0 }
    entries :=
      [{ id := 0, state := .waiting, stream := 1, source := 1, northTag := 9, kind := .write, address := 0x1000
         beats := 2, arrivalTime := 90, data := [1, 2] },
       { id := 1, state := .replyOwed .refused, stream := 1, source := 1, northTag := 10, kind := .read, address := 0
         beats := 1, arrivalTime := 95, data := [] },
       { id := 2, state := .waiting, stream := 2, source := 4, northTag := 11, kind := .write, address := 0x2000
         beats := 1, arrivalTime := 96, data := [3] }]
    nextId := 3
    timeout := 40
    slots := setAt (setAt (setAt State.reset.slots 0
      { generation := 1
        use := .busy .issued
          { stream := 1, source := 2, northTag := 4, kind := .read, beats := 2, address := 0x3000, arrivalTime := 50
            issueTime := 60, deadline := some 100 } }) 1
      { generation := 2
        use := .busy .timedOut
          { stream := 0, source := 5, northTag := 6, kind := .read, beats := 1, address := 0x4000, arrivalTime := 40
            issueTime := 49, deadline := some 99 } }) 2
      { generation := 3
        use := .busy .orphaned
          { stream := 2, source := 7, northTag := 8, kind := .write, beats := 1, address := 0x5000, arrivalTime := 10
            issueTime := 20, deadline := some 30 } }
    candidate := some { slot := 0, ok := true, data := [7, 8] }
    replyOrder := [.slot 1, .entry 1]
    window :=
      { State.reset.window with
        running := true
        active := { length := 16, channels := #v[{ offset := 0, width := 4 }, { offset := 2, width := 3 },
          { offset := 0, width := 0 }, { offset := 15, width := 9 }] }
        position := 2, sequence := 7, partTime := 100, phaseOpen := #v[true, false, false, false] }
    capture := { State.reset.capture with records := [State.reset.captureRecord .command none State.reset.balances] }
    mgmt := { State.reset.mgmt with
      selected := true, rx := .receiving RxBuffer.empty, miso := .response State.reset.mgmt.held.bytes }
    pending := [.microtick] }

/-- The state that an outcome answers; the state given where it stops. -/
def after (c : Instr) (s : State) : State :=
  match exec c s with
  | .next t => t
  | _ => s

/-- A request as a message. -/
def message (kind : Kind) (source : BitVec 6) (tag : BitVec 8) (address : BitVec 40) (beats : BitVec 5) (units : Nat) :
    LinkMessage :=
  (request kind source tag address beats units).toMessage

/-- A south response to a slot under a generation, with OK status and a number of data units. -/
def response (i : SlotIx) (g : BitVec 2) (units : Nat) : LinkMessage :=
  ({ source := 0, tag := southTag i g, status := .ok, data := List.replicate units 5 } : SouthResponse).toMessage

/-- The position at the end of the window, with nothing due. -/
def lastPosition : State :=
  { demo with
    slots := State.reset.slots, candidate := none
    window := { demo.window with position := 15, phaseOpen := #v[false, false, false, true] } }

/-- The list full: 32 entries. -/
def full : State := { State.reset with entries := List.replicate 32 (demo.entryFor (request .read 1 1 0 1 0) .waiting 0) }

/-- RST_N asserted. -/
def inReset : State := { State.reset with rst := true }

/-- No frame in progress. -/
def deselected : State := { demo with mgmt := State.reset.mgmt }

/-- A frame begun, and nothing else: no window, no entry, every slot FREE. -/
def idleFrame : State := { State.reset with mgmt := demo.mgmt }

/-- The north link's next take is of the synthesized class. -/
def owing : State := { demo with lastServed := .forwarded }

/-- The next take is the owed reply of entry 1. -/
def owingEntry : State :=
  { demo with
    lastServed := .forwarded, replyOrder := [.entry 1]
    slots := setAt demo.slots 1 { generation := 2, use := .free } }

/-! ### One-step tests -/

/-- R73: an admitted WRITE waits on its stream, with its beats in the pool. -/
theorem test_arrival_waits :
    let t := after (.arrival (message .write 9 1 0x1000 4 4)) State.reset
    (t.waitingCount 0, t.poolInUse, t.owedTotal) = (1, 4, 0) := by decide

/-- R74: a malformed request is owed a reply on stream 0, without its data. -/
theorem test_arrival_malformed :
    let t := after (.arrival (message .write 1 1 0x1008 4 4)) State.reset
    (t.waitingTotal, t.owedCount 0, t.poolInUse, t.replyOrder) = (0, 1, 0, [Ref.entry 0]) := by decide

/-- R90: the head of the higher rank, 2 beats, goes to slot 3, the lowest FREE one, under generation 1. -/
theorem test_issue_slot :
    let t := after .issue demo
    (t.slots[3].generation, t.slots[3].inStage .issued, t.entries.map PendingEntry.id) = (1, true, [1, 2]) := by decide

/-- R53 and R9: the charge of 32 bytes leaves −22; the south tag of slot 3 under generation 1 is 13. -/
theorem test_issue_charge :
    let t := after .issue demo
    (t.streams[1].balance, t.southSent.map fun m => (Request.ofMessage m).tag) = (-22, [13]) := by decide

/-- TABLE 51: an ORPHANED slot's response is dropped and the slot is FREE, its generation kept. -/
theorem test_intake_late :
    let t := after (.southResponseIntake (response 2 3 0)) { demo with candidate := none }
    (t.slots[2], t.candidate) = ({ generation := 3, use := .free }, none) := by decide

/-- TABLE 15: a READ answered with too few beats is carried north as MEMERR without data. -/
theorem test_intake_beats :
    (after (.southResponseIntake (response 0 1 1)) { demo with candidate := none }).candidate =
      some { slot := 0, ok := false, data := [] } := by decide

/-- R98: a forwarded OK goes north under the north tag, header 2 + 4 × 2^6, and frees the slot. -/
theorem test_forwarding :
    let t := after .forwarding demo
    (t.northSent, t.slots[0].use) = ([{ header := 258, data := [7, 8] }], .free) := by decide

/-- R141, R147: the COMPLETE notice of a take in a frame is taken and its sample is due; a microtick finds it taken, in
the bin of the latency 50; without a frame it is taken at once. -/
theorem test_forwarding_sample :
    let t := after .forwarding demo
    let u := after .microtick t
    (t.accounting.sampleDue.isSome, t.accounting.histogram.bins[6].count, u.accounting.sampleDue,
      u.accounting.histogram.bins[6].count) = (true, 0, none, 1) ∧
      (after .forwarding deselected).accounting.histogram.bins[6].count = 1 := by decide +kernel

/-- TABLE 73: a FREEZE that is taken before the sample leaves it untaken, and one taken after it does not. -/
theorem test_freeze_against_sample :
    (after .freeze (after .forwarding demo)).accounting.histogram.bins[6].count =
      if Config.commandFirst 0 then 0 else 1 := by
  have h : after .freeze (after .forwarding demo) = if Config.commandFirst 0 then _ else _ :=
    State.runCommand_sampleDue (after .forwarding demo) 0x43 _ (by decide +kernel) rfl rfl
  rw [h]
  cases Config.commandFirst 0 <;> decide +kernel

/-- R112, R141: no STREAM PURGE falls before the sample, and a FREEZE that comes a microtick later does not either. -/
theorem test_sample_stays_at_the_take :
    ((after (.streamPurge 1) (after .forwarding demo)).accounting.histogram.bins[6].count,
      (after .freeze (after .microtick (after .forwarding demo))).accounting.histogram.bins[6].count) = (1, 1) := by
  decide +kernel

/-- R163: at the assertion of RST_N a frame in progress reads ones. -/
theorem test_rstAssert_ones : (after .rstAssert demo).misoBit 0 = some true ∧ demo.misoBit 0 = some false := by
  decide +kernel

/-- R117: the TIMEOUT reply has status code 2, and the slot is ORPHANED. -/
theorem test_timeoutReply :
    let t := after .timeoutReply owing
    (t.northSent, t.slots[1].inStage .orphaned, t.replyOrder) =
      ([{ header := 5 + 6 * 64 + 2 * 2 ^ 14, data := [] }], true, [Ref.entry 1]) := by decide

/-- R80: the REFUSED reply has status code 3, and its entry leaves. -/
theorem test_owedReply :
    let t := after .owedReply owingEntry
    (t.northSent, t.entries.map PendingEntry.id, t.replyOrder) =
      ([{ header := 1 + 10 * 64 + 3 * 2 ^ 14, data := [] }], [0, 2], []) := by decide

/-- R37: the position returns to 0 from the last microtick of the window, and part time advances. -/
theorem test_microtick_wraps :
    let t := after .microtick lastPosition
    (t.window.position, t.window.startDue, t.window.partTime) = (0, true, 101) := by decide

/-- R93: the slot whose deadline is part time becomes TIMED_OUT, behind the references there are. -/
theorem test_expiry :
    let t := after .expiry demo
    (t.slots[0].inStage .timedOut, t.replyOrder) = (true, [Ref.slot 1, Ref.entry 1, Ref.slot 0]) := by decide

/-- R60: a window start adds the allotment of 64 to the balance of 10. -/
theorem test_windowStartEvent :
    let t := after .windowStartEvent { demo with window := { demo.window with startDue := true } }
    (t.window.sequence, t.streams[1].balance, t.streams[1].active.phaseBinding) = (8, 74, some 0) := by decide

/-- R41: the channel of offset 2 opens at position 2. -/
theorem test_phaseOpen : (after (.phaseOpen 1) demo).window.phaseOpen = #v[true, true, false, false] := by decide

/-- R41: the channel of offset 0 and width 4 closes at position 4. -/
theorem test_phaseClose :
    (after (.phaseClose 0) { demo with window := { demo.window with position := 4 } }).window.phaseOpen =
      #v[false, false, false, false] := by decide

/-- R14: a link reset orphans what is in flight, empties the list, and drops the candidate as LATE. -/
theorem test_nlrstAssert :
    let t := after .nlrstAssert demo
    (t.port, t.entries, t.slotsIn .orphaned, t.candidate, t.alert.sticky.linkReset) =
      (.linkReset, [], 2, none, true) := by decide

theorem test_nlrstRelease :
    (after .nlrstRelease { State.reset with nlrst := true, port := .linkReset }).port = .accepting := by decide

/-- R15: the pins released again, the part holds its power-on values. -/
theorem test_rst_edges : after .rstRelease (after .rstAssert { deselected with pending := [] }) = State.reset := by
  decide +kernel

/-- R167: the error and the code byte received become the held response. -/
theorem test_frameError :
    let t := after (.frameError (wire [0x03, 0x64])) demo
    (t.mgmt.held, t.alert.sticky.frame) =
      ({ status := .shortFrame, echo := 0x03, sequence := 1, data := [] }, true) := by decide +kernel

/-- TABLE 88: READ STATUS of the part after reset. -/
theorem test_readStatus :
    (after .readStatus idleFrame).mgmt.held.data =
      [0, 0, 0, 0, 0, 0, 0xFF, 0, 0, 0, 1, 64, 0, 0, 0, 0, 0xFF, 0, 0, 0] := by decide

/-- R172: SOFT RESET is answered BUSY while the list holds an entry. -/
theorem test_softReset_busy : (after .softReset demo).mgmt.held.status = .busy := by decide

/-- R34: 1023 is the largest prescaler. -/
theorem test_tickSet : (after (.tickSet 1023) demo).window.prescaler = 1023 ∧
    (after (.tickSet 1024) demo).mgmt.held.status = .badArg := by decide

/-- R81: the two WAITING entries of streams 1 and 2 lie apart; the purge of stream 2 converts one, in its place. -/
theorem test_streamPurge :
    let t := after (.streamPurge 2) demo
    (t.entries.map PendingEntry.state, t.replyOrder.length, t.mgmt.held.data) =
      ([.waiting, .replyOwed .refused, .replyOwed .aborted], 3, [1]) := by decide

/-- R29: BUSY while the stream has a WAITING entry; index 0 is refused. -/
theorem test_streamDelete : (after (.streamDelete 1) demo).mgmt.held.status = .busy ∧
    (after (.streamDelete 0) demo).mgmt.held.status = .badIndex := by decide

/-- TABLE 88: the balance in STREAM READ, bytes 36 to 39, two's complement, least significant byte first. -/
theorem test_streamRead_balance :
    ((streamData { demo with streams := setAt demo.streams 1 { demo.streams[1] with balance := -22 } } 1).drop 36).take 5 =
      [0xEA, 0xFF, 0xFF, 0xFF, 1] := by decide

/-- R102: the one ORPHANED slot is freed by ALL. -/
theorem test_reclaim : (after (.reclaim 0xFF) demo).mgmt.held.data = [1] ∧
    (after (.reclaim 0) demo).mgmt.held.status = .state := by decide

/-- R130: 2^40 − 1 and one more wraps to 0 and sets the flag. -/
theorem test_counter_wraps :
    let c : Counter := { Counter.reset with
      config := { Counter.reset.config with enable := true }, value := BitVec.allOnes 40 }
    c.takeNotice { event := .arrive, stream := some 3, quantity := 16 } =
      ({ c with value := 0, overflow := true }, true) := by decide

/-- R155: the first record takes number 1, and it is stored. -/
theorem test_captureNow : (after .captureNow idleFrame).mgmt.held.data = [1, 1, 0] := by decide

/-- R161: ALERT ACK clears the sticky causes named and not CAPTURE. -/
theorem test_alertAck :
    let s := { demo with alert := { sticky := { StickyCauses.none with stall := true, frame := true }, enabled := 0xFF } }
    (s.pendingByte, (after (.alertAck 0x42) s).pendingByte) = (0xC2, 0x82) := by decide

/-! ### Witnesses: for each statement with hypotheses, a state and operands that meet them, clause by clause -/

/-- The pool is full: 16 WAITING WRITE entries of 16 beats on stream 0. -/
def poolFull (policy : Policy) : State :=
  { State.reset with
    entries := List.replicate 16 (State.reset.entryFor (request .write 1 1 0 16 16) .waiting 0)
    streams := setAt State.reset.streams 0 { State.reset.streams[0] with policy := policy } }

/-- Stream 1 of the busy part with its entry rewritten. -/
def stream1 (f : StreamEntry → StreamEntry) : State := { demo with streams := setAt demo.streams 1 (f demo.streams[1]) }

/-- The busy part with its window rewritten. -/
def window (f : WindowGen → WindowGen) : State := { demo with window := f demo.window }

/-- The busy part with nothing held at the south port. -/
def noCandidate : State := { demo with candidate := none }

/-- Every slot busy. -/
def slotsFull : State := { demo with slots := Vector.replicate 64 demo.slots[0] }

theorem witness_StepRunsFrontCommand : State.reset.pending = [] := rfl

/-- The last place under the hold limit of stream 1, for a READ and for a WRITE. -/
theorem witness_ArrivalIsAdmittedWaiting : ∀ k ∈ [Kind.read, .write],
    let r := Request.ofMessage (message k 1 5 0x1000 16 (if k = .write then 16 else 0))
    demo.rst = false ∧ demo.port = .accepting ∧ demo.entries.length < 32 ∧ malformed r = false ∧
      demo.waitingCount (demo.classify r) + 1 = demo.streams[demo.classify r].holdLimit ∧
      demo.waitingCount (demo.classify r) < demo.streams[demo.classify r].holdLimit ∧
      (r.kind = .write → r.beats.toNat ≤ demo.poolFree) := by decide +kernel

/-- A malformed request; a stream at its hold limit; a pool with no room. -/
theorem witness_ArrivalIsOwedReply :
    (demo.rst = false ∧ demo.port = .accepting ∧ demo.entries.length < 32 ∧
      malformed (Request.ofMessage (message .read 1 5 0x1000 0 0)) = true) ∧
    (let s := stream1 fun e => { e with holdLimit := 1 }
     let r := Request.ofMessage (message .read 1 5 0x1000 1 0)
     s.rst = false ∧ s.port = .accepting ∧ s.entries.length < 32 ∧ malformed r = false ∧
        s.streams[s.classify r].holdLimit ≤ s.waitingCount (s.classify r) ∧
        s.streams[s.classify r].policy = .refuse) ∧
    (let s := poolFull .refuse
     let r := Request.ofMessage (message .write 1 5 0x1000 1 1)
     s.rst = false ∧ s.port = .accepting ∧ s.entries.length < 32 ∧ malformed r = false ∧
        (r.kind = .write ∧ s.poolFree < r.beats.toNat) ∧ s.streams[s.classify r].policy = .refuse) := by
  decide +kernel

/-- A full list, for a request of either kind; a stream at its hold limit; a pool with no room. -/
theorem witness_ArrivalStalls :
    (full.rst = false ∧ full.port = .accepting ∧ 32 ≤ full.entries.length ∧
      malformed (Request.ofMessage (message .read 1 5 0x1000 0 0)) = true ∧
      malformed (Request.ofMessage (message .read 1 5 0x1000 1 0)) = false) ∧
    (let r := Request.ofMessage (message .write 4 5 0x1000 1 1)
     demo.rst = false ∧ demo.port = .accepting ∧ demo.entries.length < 32 ∧ malformed r = false ∧
        demo.streams[demo.classify r].holdLimit ≤ demo.waitingCount (demo.classify r) ∧
        demo.streams[demo.classify r].policy = .stall) ∧
    (let s := poolFull .stall
     let r := Request.ofMessage (message .write 1 5 0x1000 1 1)
     s.rst = false ∧ s.port = .accepting ∧ s.entries.length < 32 ∧ malformed r = false ∧
        (r.kind = .write ∧ s.poolFree < r.beats.toNat) ∧ s.streams[s.classify r].policy = .stall) := by
  decide +kernel

/-- A stalled arrival that its retry admits, one that stalls again, and a port that is not STALLED. -/
theorem witness_RetryIsAFreshAttempt :
    (let m := message .read 1 5 0x1000 1 0
     let s : State := { demo with port := .stalled (Request.ofMessage m) 1 }
     s.rst = false ∧ s.port = .stalled (Request.ofMessage m) 1 ∧ s.verdict (Request.ofMessage m) = .enter 1) ∧
    (let m := message .write 4 5 0x1000 1 1
     let s : State := { demo with port := .stalled (Request.ofMessage m) 0 }
     s.rst = false ∧ s.port = .stalled (Request.ofMessage m) 0 ∧ s.verdict (Request.ofMessage m) = .stall 2) ∧
    demo.port = .accepting := by decide +kernel

theorem witness_OfferedMessageHasNoEffect :
    inReset.rst = true ∧ (after .nlrstAssert demo).port ≠ .accepting ∧ demo.candidate ≠ none ∧
      State.reset.chooseHead = none ∧ slotsFull.lowestFree = none ∧ owing.northChoice ≠ some .forwarded ∧
      demo.northChoice ≠ some .synthesized ∧ owing.replyOrder.head? = some (.slot 1) ∧
      owingEntry.replyOrder.head? = some (.entry 1) := by decide +kernel

/-- The four tests of R18, written as in the statement. -/
def meets (s : State) (r : Request) (i : StreamIx) : Bool :=
  decide <| i ≠ 0 ∧ s.streams[i].valid = true ∧
    (s.streams[i].fields.sourceLow.toNat ≤ r.source.toNat ∧ r.source.toNat ≤ s.streams[i].fields.sourceHigh.toNat) ∧
    (s.streams[i].fields.pageBase.toNat ≤ r.address.toNat / 4096 ∧
      r.address.toNat / 4096 ≤ s.streams[i].fields.pageLimit.toNat) ∧
    (match r.kind with
      | .read => s.streams[i].fields.kinds.read
      | .write => s.streams[i].fields.kinds.write) = true

/-- Requests at the ends of the source and page ranges of streams 1 and 2, one that no stream matches, one malformed.
-/
theorem witness_ClassificationIsLowestMatch :
    (malformed (request .read 1 0 0 1 0) = false ∧ meets demo (request .read 1 0 0 1 0) 1 = true ∧
      meets demo (request .read 1 0 0 1 0) 0 = false) ∧
    (malformed (request .read 2 0 0xFF000 1 0) = false ∧ meets demo (request .read 2 0 0xFF000 1 0) 1 = true ∧
      meets demo (request .read 2 0 0xFF000 1 0) 0 = false) ∧
    (malformed (request .write 63 0 0 1 1) = false ∧ meets demo (request .write 63 0 0 1 1) 2 = true ∧
      meets demo (request .write 63 0 0 1 1) 1 = false ∧ meets demo (request .write 63 0 0 1 1) 0 = false) ∧
    (malformed (request .read 1 0 0x100000 1 0) = false ∧
      ∀ i : StreamIx, meets demo (request .read 1 0 0x100000 1 0) i = false) ∧
    malformed (request .read 1 0 0 17 0) = true :=
  ⟨by decide +kernel, by decide +kernel, by decide +kernel, by decide +kernel, by decide +kernel⟩

/-- A state on each line of TABLE 32, at balances 0 and 1, and the hypotheses of the other two parts. -/
theorem witness_GateStateIsFirstLine :
    demo.streams[3].valid = false ∧ (stream1 fun e => { e with paused := true }).streams[1].paused = true ∧
      idleFrame.window.running = false ∧
      (∃ c, demo.streams[2].active.phaseBinding = some c ∧
        (window fun w => { w with phaseOpen := Vector.replicate 4 false }).window.phaseOpen[c] = false) ∧
      ((stream1 fun e => { e with balance := 0 }).streams[1].active.budgetEnable = true ∧
        (stream1 fun e => { e with balance := 0 }).streams[1].balance ≤ 0) ∧
      ¬ (stream1 fun e => { e with balance := 1 }).streams[1].balance ≤ 0 ∧
      (demo.streams[0].valid = true ∧ demo.streams[0].paused = false ∧ demo.streams[0].active.budgetEnable = false ∧
        demo.streams[0].active.phaseBinding = none) ∧
      (demo.chooseHead.map PendingEntry.id = some 0) ∧ inReset.rst = true ∧
      (idleFrame.inFrame = true ∧ idleFrame.entries = [] ∧ ∀ i : SlotIx, idleFrame.slots[i].use = .free) := by
  decide +kernel

/-- Two READY heads of unequal rank, two of equal rank, and no READY head. -/
theorem witness_ArbiterTakesHighestRankThenOldest :
    (demo.entries.Nodup ∧ demo.chooseHead.map PendingEntry.id = some 0 ∧
      (demo.head 2).map PendingEntry.id = some 2 ∧ demo.gate 2 = .ready) ∧
    (stream1 fun e => { e with rank := 1 }).chooseHead.map PendingEntry.id = some 0 ∧
    State.reset.chooseHead = none := by decide +kernel

theorem witness_SouthTagNamesSlotAndGeneration :
    southTag 63 3 = southTag 63 3 ∧ demo.rst = false ∧ demo.chooseHead = some demo.entries[0] ∧
      demo.lowestFree = some 3 := by decide +kernel

/-- With a charge that leaves exactly 0, with one that leaves 1, and without a budget or a timeout. -/
theorem witness_IssueSendsTheChosenHead :
    (demo.lowestFree = some 3) ∧
    (∀ b ∈ [(32 : Int), 33],
      let s := stream1 fun e => { e with balance := b }
      s.rst = false ∧ s.chooseHead = some demo.entries[0] ∧ s.lowestFree = some 3 ∧
        (s.entries.map PendingEntry.id).Nodup ∧ s.timeout = 40) ∧
    (let s : State := { stream1 fun e => { e with paused := true } with timeout := 0 }
     s.rst = false ∧ s.chooseHead = some demo.entries[2] ∧ s.lowestFree = some 3 ∧
        (s.entries.map PendingEntry.id).Nodup) := by decide +kernel

/-- A response to a slot in each state, to a FREE slot, and under another generation. -/
theorem witness_SouthResponseIntakeOutcomes :
    (noCandidate.rst = false ∧ noCandidate.candidate = none) ∧
    (SouthResponse.ofMessage (response 63 3 16)).tag = southTag 63 3 ∧
    (∃ q, noCandidate.slots[0] = { generation := 1, use := .busy .issued q }) ∧
    (∃ q, noCandidate.slots[1] = { generation := 2, use := .busy .timedOut q }) ∧
    (∃ q, noCandidate.slots[2].use = .busy .orphaned q) ∧ noCandidate.slots[63].use = .free ∧
    noCandidate.slots[0].generation ≠ 2 :=
  ⟨by decide, by decide, ⟨_, rfl⟩, ⟨_, rfl⟩, ⟨_, rfl⟩, by decide, by decide⟩

/-- The busy part keeps the laws of the traffic. -/
theorem demo_traffic : TrafficInv demo where
  listBound := by decide
  poolBound := by decide
  idsFresh := by decide
  idsDistinct := by decide
  refsDistinct := by decide
  entryRefs := by
    intro id
    have h : demo.replyOrder = [.slot 1, .entry 1] := rfl
    have he : (∃ e ∈ demo.entries, e.id = id ∧ e.isWaiting = false) ↔ id = 1 := by
      constructor
      · rintro ⟨e, he, rfl, hw⟩
        revert e
        decide
      · rintro rfl
        exact ⟨demo.entries[1], by decide, rfl, rfl⟩
    rw [h, he]
    simp
  slotRefs := by decide +kernel
  candidateSlot := by
    intro c h
    cases h
    exact .inl rfl
  candidateData := by
    intro c g q h hu
    cases h
    cases hu
    rfl
  entriesWf := by
    intro e he
    simp only [demo, List.mem_cons, List.not_mem_nil, or_false] at he
    rcases he with rfl | rfl | rfl <;> simp [PendingEntry.wf]
  slotsWf := by
    have key : ∀ i : SlotIx, i ≠ 0 → i ≠ 1 → i ≠ 2 → demo.slots[i].use = .free := by decide +kernel
    intro i
    by_cases h0 : i = 0
    · subst h0
      exact ⟨by decide, by simp, fun _ d h => by cases h; decide⟩
    by_cases h1 : i = 1
    · subst h1
      exact ⟨by decide, by simp, by simp⟩
    by_cases h2 : i = 2
    · subst h2
      exact ⟨by decide, by simp, by simp⟩
    · simp only [Slot.wf, key i h0 h1 h2]
  timeoutBound := by decide
  portReset := by decide
  quiet := by
    intro _ h
    cases h

/-- Each clause on the classes that wait, and a state that keeps the laws at each choice that the arbiter gives. -/
theorem witness_NorthArbiterAlternates :
    inReset.rst = true ∧ (after .nlrstAssert demo).nlrst = true ∧
    (demo.rst = false ∧ demo.nlrst = false ∧ demo.candidate.isSome ∧ demo.replyOrder ≠ []) ∧
    (({ demo with replyOrder := [] } : State).candidate.isSome) ∧
    (noCandidate.candidate = none ∧ noCandidate.replyOrder ≠ []) ∧
    (State.reset.candidate = none ∧ State.reset.replyOrder = []) ∧
    (TrafficInv demo ∧ demo.northChoice = some .forwarded) :=
  ⟨by decide, by decide, by decide, by decide, by decide, by decide, demo_traffic, by decide⟩

/-- A candidate with data at an ISSUED slot, and one without data that is carried north as MEMERR; a frame in progress, and
none. -/
theorem witness_ForwardingAnswersTheRequester :
    demo.inFrame = true ∧ deselected.inFrame = false ∧ deselected.northChoice = some .forwarded ∧
    (∃ c q, demo.northChoice = some .forwarded ∧ demo.candidate = some c ∧
      demo.slots[c.slot].use = .busy .issued q ∧ (c.ok = false ∨ q.kind = .write → c.data = [])) ∧
    let s : State := { demo with candidate := some { slot := 1, ok := false, data := [] } }
    ∃ c q, s.northChoice = some .forwarded ∧ s.candidate = some c ∧
      s.slots[c.slot].use = .busy .timedOut q ∧ (c.ok = false ∨ q.kind = .write → c.data = []) :=
  ⟨by decide, by decide, by decide, ⟨_, _, by decide, rfl, rfl, by decide⟩, ⟨_, _, by decide, rfl, rfl, by decide⟩⟩

/-- The slot at the head of the list, with a candidate at another slot and with a candidate of its own. -/
theorem witness_TimeoutReplyOrphansTheSlot :
    (∃ q d, owing.northChoice = some .synthesized ∧ owing.replyOrder.head? = some (.slot 1) ∧
      owing.slots[1].use = .busy .timedOut q ∧ q.deadline = some d ∧
      ∀ c, owing.candidate = some c → c.slot ≠ 1) ∧
    let s : State := { owing with candidate := some { slot := 1, ok := true, data := [6] } }
    ∃ q d c, s.northChoice = some .synthesized ∧ s.replyOrder.head? = some (.slot 1) ∧
      s.slots[1].use = .busy .timedOut q ∧ q.deadline = some d ∧ s.candidate = some c ∧ c.slot = 1 :=
  ⟨⟨_, _, by decide, by decide, rfl, rfl, by intro c h; cases h; decide⟩,
    ⟨_, _, _, by decide, by decide, rfl, rfl, rfl, rfl⟩⟩

theorem witness_OwedReplyIsSentOnce :
    let e := owingEntry.entries[1]
    owingEntry.northChoice = some .synthesized ∧ owingEntry.replyOrder.head? = some (.entry e.id) ∧
      e ∈ owingEntry.entries ∧ e.state = .replyOwed .refused ∧ (owingEntry.entries.map PendingEntry.id).Nodup := by
  decide +kernel

/-- At the last position of the window, and STOPPED. -/
theorem witness_MicrotickAdvancesPartTimeAndPosition : ∀ s ∈ [lastPosition, State.reset],
    s.rst = false ∧ s.window.startDue = false ∧
      (∀ c : ChannelIx, s.window.openDue c = false ∧ s.window.closeDue c = false) ∧
      ∀ i : SlotIx, s.slots[i].expiresAt s.window.partTime = false := by decide +kernel

/-- A command of time that changes the part, and a slot still ISSUED after the microtick. -/
theorem witness_MicrotickTakesWhatIsDue :
    exec .expiry demo = .next (after .expiry demo) ∧ demo.expiring = [0] ∧ demo.rst = false ∧
      let s := window fun w => { w with partTime := 99 };
      exec .microtick s = .next (after .microtick s) ∧ ∃ q, (after .microtick s).slots[0].use = .busy .issued q :=
  ⟨rfl, by decide +kernel, rfl, rfl, _, rfl⟩

theorem witness_ExpiryTimesOutEverySlotDue :
    demo.rst = false ∧ (∃ q, demo.slots[0].use = .busy .issued q ∧ q.deadline = some demo.window.partTime) ∧
      ∃ q, demo.slots[1].use = .busy .timedOut q :=
  ⟨rfl, ⟨_, rfl, by decide⟩, _, rfl⟩

theorem witness_WindowStartBeginsAWindow :
    (let s := window fun w => { w with startDue := true }
     s.rst = false ∧ s.window.running = true ∧ s.window.startDue = true) ∧
    (idleFrame.inFrame = true ∧ idleFrame.accounting.sampleDue = none ∧ idleFrame.window.running = false) ∧
    (demo.inFrame = true ∧ demo.accounting.sampleDue = none ∧ demo.window.running = true) := by decide +kernel

theorem witness_WindowStartAppliesStagedAndReplenishes :
    demo.streams[1].valid = true ∧ demo.streams[3].valid = false ∧ idleFrame.inFrame = true ∧
      exec .windowStart idleFrame = .next (after .windowStart idleFrame) ∧
      let s := window fun w => { w with startDue := true }
      (s.rst = false ∧ s.window.running = true ∧ s.window.startDue = true) ∧
        exec .windowStartEvent s = .next (after .windowStartEvent s) :=
  ⟨rfl, rfl, rfl, rfl, by decide, rfl⟩

/-- Channel 1 opens at its offset 2, channel 0 closes at 4; channel 3's end lies beyond the window. -/
theorem witness_PhaseEventsFollowThePosition :
    (demo.rst = false ∧ demo.window.openDue 1 = true ∧ demo.window.closeDue 1 = false) ∧
    (let s := window fun w => { w with position := 4 }
     s.rst = false ∧ s.window.closeDue 0 = true ∧ s.window.openDue 0 = false) ∧
    lastPosition.window.closeDue 3 = false := by decide +kernel

theorem witness_LinkResetEdges :
    (noCandidate.rst = false ∧ noCandidate.nlrst = false ∧ noCandidate.candidate = none) ∧
    (∃ c q, demo.candidate = some c ∧ demo.slots[c.slot].use = .busy .issued q) ∧
    ((after .nlrstAssert demo).rst = false ∧ (after .nlrstAssert demo).nlrst = true) ∧
    (inReset.rst = true ∧ inReset.nlrst = false) ∧
    let s : State := { inReset with nlrst := true }
    s.rst = true ∧ s.nlrst = true :=
  ⟨by decide, ⟨_, _, rfl, rfl⟩, by decide, by decide, by decide⟩

theorem witness_ResetAssertionSilencesThePart :
    demo.rst = false ∧ deselected.rst = false ∧ (after .rstAssert deselected).mgmt.selected = false ∧
      isCommand .readStatus = true := by decide +kernel

theorem witness_ResetReleaseGivesPowerOnValues : inReset.rst = true ∧ ({ demo with rst := true } : State).rst = true := by
  decide +kernel

/-- A first bit, and the last bit of the five bytes of a held response without data. -/
theorem witness_FrameShowsTheHeldResponse :
    demo.mgmt.selected = true ∧ deselected.mgmt.selected = false ∧ deselected.rst = false ∧
      (inReset.mgmt.selected = false ∧ inReset.rst = true) ∧
      (deselected.mgmt.held.bytes[0]? = some 1 ∧ (deselected.mgmt.held.bytes)[4]?.isSome ∧
        deselected.mgmt.held.bytes.length ≤ 5) := by decide +kernel

theorem witness_NopFrameChangesNothing :
    demo.rst = false ∧ exec (.nop (wire [0, 1])) demo = .next (after (.nop (wire [0, 1])) demo) ∧
      exec .selFallingEdge (after (.nop (wire [0, 1])) demo) =
        .next (after .selFallingEdge (after (.nop (wire [0, 1])) demo)) :=
  ⟨rfl, rfl, rfl⟩

theorem witness_IgnoredAndFailedFrames :
    demo.rst = false ∧ demo.mgmt.rx = .receiving RxBuffer.empty ∧ judgeBits (wire [0x05]) = .error 0x05 .unknownCmd ∧
      judgeBits (wire [0x03]) = .error 0x03 .shortFrame ∧ judgeBits (wire [0x01, 0xF4, 0x01]) = .error 0x01 .longFrame ∧
      judgeBits (wire [0x01, 0x00]) = .error 0x01 .crcError := by decide +kernel

/-- Every clause at the code of TICK SET, whose two argument bytes make a frame of four. -/
theorem witness_FrameJudgementFollowsTable80 : ([true, true, true, true, true, true, true] : List Bool).length < 8 ∧
    ((0x03 : Byte) ≠ 0x00 ∧ argBytes 0x04 = none ∧ argBytes 0x03 = some 2) ∧
      ([0x64, 0x00] : List Byte).length < 2 + 1 ∧ 2 + 1 < ([0x64, 0x00, 0x37, 0x00] : List Byte).length ∧
      ([0x64, 0x00, 0x37] : List Byte) = [0x64, 0x00] ++ [0x37] ∧ (0x36 : Byte) ≠ crc8 [0x03, 0x64, 0x00] ∧
      (0x37 : Byte) = crc8 [0x03, 0x64, 0x00] := by decide +kernel

theorem witness_EncodedFramesDecode : encodeFrame (.counterWrite 7 (BitVec.allOnes 40)) =
    some ([0x41, 7, 255, 255, 255, 255, 255] ++ [crc8 [0x41, 7, 255, 255, 255, 255, 255]]) := by decide +kernel

theorem witness_CrcIsFormedAndApplied : (0x03 : Byte) ≠ 0x00 ∧ argBytes 0x03 = some ([0x64, 0x00] : List Byte).length := by
  decide

/-- Two headers that differ in an unassigned bit alone. -/
theorem witness_LinkHeadersKeepTheirFields :
    (∀ k : Fin 60, (5 : BitVec 64).getLsbD k.val = (5 + 2 ^ 60 : BitVec 64).getLsbD k.val) ∧
      ∀ k : Fin 15, (5 : BitVec 64).getLsbD k.val = (5 + 2 ^ 15 : BitVec 64).getLsbD k.val := by decide +kernel

theorem witness_EveryCommandFrameIsAnswered :
    commandBytes (.tickSet 100) = some [0x03, 0x64, 0x00] ∧ commandBytes .freeze = some [0x43] ∧ demo.inFrame = true ∧ demo.accounting.sampleDue = none ∧
      deselected.inFrame = false ∧ (after .forwarding demo).inFrame = true ∧
      (after .forwarding demo).accounting.sampleDue.isSome ∧
      (Config.commandFirst 0 = false ∨ Config.commandFirst 0 = true) :=
  ⟨by decide +kernel, rfl, by decide, rfl, by decide, by decide +kernel, rfl, by cases Config.commandFirst 0 <;> simp⟩

/-- The ends of every index range, a record to read and none, and the values just outside. -/
theorem witness_ReadCommandsOnlyAnswer :
    demo.inFrame = true ∧ demo.accounting.sampleDue = none ∧
      (15 : Byte).toNat = (15 : StreamIx).val ∧ 16 ≤ (16 : Byte).toNat ∧
      (63 : Byte).toNat = (63 : SlotIx).val ∧ 64 ≤ (64 : Byte).toNat ∧ (7 : Byte).toNat = (7 : CounterIx).val ∧
      (8 ≤ (8 : Byte).toNat ∧ (8 : Byte) ≠ 0xFF) ∧ 3 ≤ (3 : Byte).toNat ∧ (3 : Byte).toNat = (3 : Fin 4).val ∧
      demo.capture.records.head?.isSome ∧ (3 : Byte).toNat ≤ 3 ∧
      (idleFrame.inFrame = true ∧ idleFrame.accounting.sampleDue = none ∧
        idleFrame.capture.records = []) ∧ 4 ≤ (4 : Byte).toNat := by decide +kernel

/-- The ends of the three ranges and the values just outside. -/
theorem witness_SettingCommandsSetOneSetting :
    demo.inFrame = true ∧ demo.accounting.sampleDue = none ∧
      1 ≤ (1 : BitVec 16).toNat ∧ (1023 : BitVec 16).toNat ≤ 1023 ∧ (0 : BitVec 16).toNat = 0 ∧
      1023 < (1024 : BitVec 16).toNat ∧ 16 ≤ (16 : BitVec 16).toNat ∧ (15 : BitVec 16).toNat < 16 ∧
      (1048575 : BitVec 24).toNat ≤ 1048575 ∧ 1048575 < (1048576 : BitVec 24).toNat := by decide

/-- A STREAM WRITE of an index with every argument at an end of its range. -/
def writeArgs (index : Byte) : StreamWriteArgs :=
  { index := index, sourceLow := 63, sourceHigh := 63, pageBase := 0, pageLimit := 0xFFFFFFF, kinds := 1, rank := 3
    holdLimit := 32, policy := 1, budgetEnable := 1, allotment := 1048576, ceiling := 2097152, phaseBinding := 0xFF }

/-- A valid stream, a stream that is not valid, and stream 0. -/
theorem witness_StreamWriteTakesOrStages :
    demo.inFrame = true ∧ demo.accounting.sampleDue = none ∧
      (∀ i ∈ [(0 : StreamIx), 1, 15], ∃ b : Byte, b.toNat = i.val ∧ streamWriteAccepted (writeArgs b)) ∧
      demo.streams[1].valid = true ∧ demo.streams[15].valid = false ∧
      ({ writeArgs 1 with phaseBinding := 3 } : StreamWriteArgs).phaseBinding.toNat = (3 : ChannelIx).val := by
  refine ⟨by decide, rfl, ?_, by decide, by decide, by decide⟩
  intro i hi
  simp only [List.mem_cons, List.not_mem_nil, or_false] at hi
  rcases hi with rfl | rfl | rfl
  · exact ⟨0, rfl, by simp [streamWriteAccepted, writeArgs]⟩
  · exact ⟨1, rfl, by simp [streamWriteAccepted, writeArgs]⟩
  · exact ⟨15, rfl, by simp [streamWriteAccepted, writeArgs]⟩

/-- An index just out of range, and a hold limit just out of range. -/
theorem witness_StreamWriteIsJudgedFirst :
    demo.inFrame = true ∧ demo.accounting.sampleDue = none ∧
      16 ≤ (writeArgs 16).index.toNat ∧ (writeArgs 15).index.toNat < 16 ∧
      ¬ streamWriteAccepted { writeArgs 15 with holdLimit := 33 } := by
  refine ⟨by decide, rfl, by decide, by decide, ?_⟩
  simp [streamWriteAccepted, writeArgs]

theorem witness_StreamDeleteEndsTheStream :
    demo.inFrame = true ∧ demo.accounting.sampleDue = none ∧
      16 ≤ (16 : Byte).toNat ∧ ((1 : Byte).toNat = (1 : StreamIx).val ∧ (1 : StreamIx) ≠ 0) ∧
      demo.waitingCount 1 ≠ 0 ∧ demo.waitingCount 15 = 0 ∧ demo.streams[15].valid = false ∧
      let s : State := { demo with entries := [] }
      s.inFrame = true ∧ s.accounting.sampleDue = none ∧
        s.waitingCount 1 = 0 ∧ s.streams[1].valid = true := by decide +kernel

theorem witness_PauseAndResumeSetTheFlag :
    demo.inFrame = true ∧ demo.accounting.sampleDue = none ∧
      (15 : Byte).toNat = (15 : StreamIx).val ∧ demo.streams[15].paused = false ∧
      (stream1 fun e => { e with paused := true }).streams[1].paused = true ∧ 16 ≤ (16 : Byte).toNat := by
  decide +kernel

theorem witness_StreamPurgeAbortsTheStream :
    demo.inFrame = true ∧ demo.accounting.sampleDue = none ∧
      16 ≤ (16 : Byte).toNat ∧ (15 : Byte).toNat = (15 : StreamIx).val ∧
      (demo.entries.filter fun e => e.state = .waiting ∧ e.stream = 15) = [] ∧
      (demo.entries.filter fun e => e.state = .waiting ∧ e.stream = 2) ≠ [] := by decide +kernel

theorem witness_WindowStopEndsTheWindow :
    (demo.inFrame = true ∧ demo.accounting.sampleDue = none ∧ demo.window.running = true) ∧
      (idleFrame.inFrame = true ∧ idleFrame.accounting.sampleDue = none ∧ idleFrame.window.running = false) := by
  decide +kernel

theorem witness_ReclaimFreesOrphanedSlots :
    demo.inFrame = true ∧ demo.accounting.sampleDue = none ∧
      (64 ≤ (64 : Byte).toNat ∧ (64 : Byte) ≠ 0xFF) ∧ (63 : Byte).toNat = (63 : SlotIx).val ∧
      (∃ q, demo.slots[2].use = .busy .orphaned q) ∧ demo.slots[63].use = .free :=
  ⟨by decide, rfl, by decide, by decide, ⟨_, rfl⟩, by decide⟩

/-- The arguments of COUNTER SET at the ends of their ranges. -/
def counterArgsAt (index : Byte) : CounterSetArgs :=
  { index := index, event := 17, filter := 15, threshold := 0xFFFFFF, flags := 31 }

theorem witness_CounterCommandsWriteTheirPart :
    demo.inFrame = true ∧ demo.accounting.sampleDue = none ∧ 8 ≤ (counterArgsAt 8).index.toNat ∧
      ((counterArgsAt 7).index.toNat = (7 : CounterIx).val ∧ counterSetAccepted (counterArgsAt 7)) ∧
      ¬ counterSetAccepted { counterArgsAt 7 with filter := 255 } := by
  refine ⟨by decide, rfl, by decide, ⟨by decide, ?_⟩, ?_⟩ <;> simp [counterSetAccepted, counterArgsAt]

theorem witness_FreezeAndUnfreezeSetTheState :
    (demo.inFrame = true ∧ demo.accounting.sampleDue = none ∧ demo.accounting.state = .counting) ∧
      let s : State := { demo with accounting := { demo.accounting with state := .frozen (.counter 3) } }
      s.inFrame = true ∧ s.accounting.sampleDue = none ∧
        s.accounting.state = .frozen (.counter 3) := by decide +kernel

/-- The arguments of HISTOGRAM SET with the boundaries 1 to 7. -/
def histogramArgsFrom1 : HistogramSetArgs :=
  { latencyKind := 2, filter := 0xFF, flags := 3, boundaries := #v[1, 2, 3, 4, 5, 6, 7] }

theorem witness_HistogramCommandsClear :
    demo.inFrame = true ∧ demo.accounting.sampleDue = none ∧ histogramSetAccepted histogramArgsFrom1 ∧
      ¬ histogramSetAccepted { histogramArgsFrom1 with latencyKind := 3 } ∧
      let o : CaptureOptions := { includeHistogram := true, includeBalances := true, clearCounters := true
                                  clearHistogram := true, captureOnFreeze := true }
      let s : State := { idleFrame with capture := { idleFrame.capture with options := o } }
      let r := State.reset.captureRecord .command none State.reset.balances
      (s.capture.options.clearHistogram = true ∧ s.inFrame = true ∧ s.accounting.sampleDue = none ∧
        s.capture.records.length < 4 ∧
        exec .histogramClear s = .next (after .histogramClear s)) ∧
      4 ≤ [r, r, r, r].length := by
  refine ⟨by decide, rfl, ?_, ?_, ⟨rfl, rfl, rfl, by decide, rfl⟩, by decide⟩
  · unfold histogramSetAccepted
    decide +kernel
  · simp [histogramSetAccepted, histogramArgsFrom1]

theorem witness_CaptureSetAndAlertCommands :
    demo.inFrame = true ∧ demo.accounting.sampleDue = none ∧ 32 ≤ (32 : Byte).toNat ∧ (31 : Byte).toNat < 32 ∧
      exec (.alertAck 0xFF) demo = .next (after (.alertAck 0xFF) demo) :=
  ⟨rfl, rfl, by decide, by decide, rfl⟩

theorem witness_CaptureNowAndRelease :
    (idleFrame.inFrame = true ∧ idleFrame.accounting.sampleDue = none ∧ idleFrame.capture.records = []) ∧
      demo.inFrame = true ∧ demo.accounting.sampleDue = none ∧ ∃ r rest, demo.capture.records = r :: rest ∧
        exec .captureRelease demo = .next (after .captureRelease demo) :=
  ⟨by decide, by decide, rfl, _, _, rfl, rfl⟩

theorem witness_SoftResetNeedsAnIdlePart :
    (demo.inFrame = true ∧ demo.accounting.sampleDue = none ∧ demo.entries ≠ [] ∧ demo.slots[0].use ≠ .free) ∧
      (idleFrame.inFrame = true ∧ idleFrame.accounting.sampleDue = none ∧ idleFrame.entries = [] ∧
        ∀ i : SlotIx, idleFrame.slots[i].use = .free) ∧
      exec .rstAssert idleFrame = .next (after .rstAssert idleFrame) ∧
      exec .rstRelease (after .rstAssert idleFrame) = .next (after .rstRelease (after .rstAssert idleFrame)) :=
  ⟨by decide +kernel, by decide +kernel, rfl, rfl⟩

/-- A counter of ARRIVE with threshold 16, AT_LEAST, edge as given. -/
def arriveCounter (edge : Bool) : Counter :=
  { Counter.reset with
    config := { Counter.reset.config with enable := true, threshold := 16, edge := edge } }

/-- A counter of an event with a filter. -/
def counterOf (event : Event) (filter : Option StreamIx) : Counter :=
  { Counter.reset with config := { Counter.reset.config with enable := true, event := event, filter := filter } }

/-- A notice that is taken, at the threshold, and one below it; a sample on either side of the edge memory; and at a
report each event of TABLE 63 with either filter, a counter of another event, and one that is not enabled. -/
theorem witness_CounterTakesNoticesAndSamples :
    let c := arriveCounter false
    (c.config.enable = true ∧ c.config.event = .arrive ∧ c.config.filter = none) ∧
      (c.config.test = .atLeast ∧ c.config.threshold ≤ 16) ∧ ¬ c.config.threshold ≤ 15 ∧ c.config.test ≠ .below ∧
      c.config.edge = false ∧ (arriveCounter true).config.edge = true ∧ (arriveCounter true).edgeMemory = false ∧
      ({ arriveCounter true with edgeMemory := true } : Counter).edgeMemory = true ∧
      Counter.reset.config.enable = false ∧
      (∀ e ∈ [Event.window, .heldLevel, .slotLevel, .poolLevel],
        ((counterOf e none).config.enable = true ∧ (counterOf e none).config.event = e ∧
          (counterOf e none).config.filter = none) ∧ (counterOf e (some 15)).config.filter = some 15) ∧
      ((counterOf .balanceLevel (some 15)).config.event = .balanceLevel ∧
        (counterOf .balanceLevel (some 15)).config.filter = some 15) ∧
      (counterOf .arrive none).config.event ∉ [Event.window, .heldLevel, .slotLevel, .poolLevel, .balanceLevel] := by
  decide +kernel

/-- TABLE 63: the report of the busy part, whose stream 1 has one WAITING entry of 2 beats, two in all. -/
theorem test_report_levels :
    let take (e : Event) (f : Option StreamIx) : Nat :=
      ((({ counterOf e f with config := { (counterOf e f).config with accumulate := .sum } } : Counter).takeReport
        demo.windowReport).1).value.toNat
    (take .heldLevel (some 1), take .heldLevel none, take .poolLevel (some 1), take .poolLevel none,
      take .slotLevel (some 2), take .slotLevel none, take .balanceLevel (some 1)) = (1, 2, 2, 3, 1, 3, 10) := by
  decide +kernel

/-- The busy part with counter 3 full, and a freeze at its wrap. -/
def aboutToWrap : State :=
  { demo with
    accounting := { demo.accounting with
      counters := setAt demo.accounting.counters 3
        { arriveCounter false with
          config := { (arriveCounter false).config with freezeOnOverflow := true }, value := BitVec.allOnes 40 } } }

/-- A notice at which counter 3 wraps, one at which none does, a report that is counted, and a sample that is due. -/
theorem witness_WrapFreezesAccounting :
    let results := mapAll (Counter.takeNotice { event := .arrive, stream := some 1, quantity := 16 })
      aboutToWrap.accounting.counters
    aboutToWrap.accounting.state = .counting ∧ aboutToWrap.accounting.sampleDue = none ∧
      (results[3].2 = true ∧ aboutToWrap.accounting.counters[3].config.freezeOnOverflow = true) ∧
      (∀ j : CounterIx, j < 3 → ¬ (results[j].2 = true)) ∧ aboutToWrap.capture.options.captureOnFreeze = false ∧
      (∀ i : CounterIx,
        (demo.accounting.counters[i].takeNotice { event := .arrive, stream := none, quantity := 0 }).2 = false) ∧
      ({ demo.capture.options with captureOnFreeze := true } : CaptureOptions).captureOnFreeze = true ∧
      ({ demo.accounting with state := .frozen .command } : AccountingUnit).state = .frozen .command ∧
      ((({ counterOf .window none with value := BitVec.allOnes 40 } : Counter).takeReport demo.windowReport).2 = true) ∧
      (after .forwarding demo).accounting.sampleDue.isSome := by
  decide +kernel

/-- A sample of the reset configuration, one of MEMERR that it leaves out, a bin about to fill, and a full one. -/
theorem witness_HistogramTakesSamples :
    let h := demo.accounting.histogram
    demo.accounting.state = .counting ∧ h.config.filter = none ∧ ascending h.config.boundaries = true ∧
      h.config.includeMemerr = false ∧ h.worst = none ∧ h.bins[0].count.toNat < 2 ^ 32 - 1 ∧
      ({ count := BitVec.allOnes 32, saturated := false } : Bin).count.toNat = 2 ^ 32 - 1 := by decide +kernel

/-- A queue with room, a full one, and a report at each side of the period. -/
theorem witness_CaptureAttemptStoresOrDrops :
    let r := State.reset.captureRecord .command none State.reset.balances
    demo.capture.records.length < 4 ∧ 4 ≤ [r, r, r, r].length ∧ demo.capture.period = 0 ∧
      let q : CaptureQueue := { demo.capture with period := 2 }
      (q.period ≠ 0 ∧ q.periodicCount + 1 ≠ q.period) ∧
        ({ q with periodicCount := 1 } : CaptureQueue).periodicCount + 1 = q.period := by decide +kernel

/-- A cause that is pending and enabled. -/
theorem witness_AlertLineFollowsTheSets :
    let s : State := { demo with alert := { sticky := .none, enabled := 2 } }
    s.rst = false ∧ s.causePending .capture = true ∧ s.alert.enabled.getLsbD Cause.capture.bit = true ∧
      s.capture.records ≠ [] := by decide +kernel

/-- The busy part keeps every law. -/
theorem demo_inv : Inv demo where
  traffic := demo_traffic
  streams :=
    { defaultValid := rfl
      entriesWf := by
        have key : ∀ i : StreamIx, i ≠ 0 → i ≠ 1 → i ≠ 2 → demo.streams[i] = StreamEntry.reset false := by
          decide +kernel
        intro i
        by_cases h0 : i = 0
        · subst h0
          unfold StreamEntry.wf Regulation.wf
          decide +kernel
        by_cases h1 : i = 1
        · subst h1
          unfold StreamEntry.wf Regulation.wf
          decide +kernel
        by_cases h2 : i = 2
        · subst h2
          unfold StreamEntry.wf Regulation.wf
          decide +kernel
        · rw [key i h0 h1 h2]
          unfold StreamEntry.wf Regulation.wf
          decide +kernel
      waitingValid := by decide +kernel
      stallHasEntries := by
        intro r i h
        cases h }
  window :=
    { prescalerRange := by decide
      intervalRange := by decide
      activeWf := by unfold WindowSettings.wf; decide +kernel
      stagedWf := by unfold WindowSettings.wf; decide +kernel
      positionRange := by decide
      stopped := by intro h; cases h
      phaseLaw := by decide +kernel }
  accounting :=
    { dueInFrame := fun h => absurd rfl h
      countersWf := by unfold CounterConfig.wf; decide +kernel
      boundariesAscend := by decide
      markedFull := by decide +kernel
      worstAddress := by intro r h; cases h
      recordsBound := by decide
      missedBound := by decide
      periodBound := by decide
      periodicBound := by decide }
  port :=
    { heldSequence := rfl
      heldData := by decide
      receiving := fun _ => ⟨rfl, rfl, rfl, rfl⟩
      fresh := fun _ => rfl }

theorem witness_StepKeepsTrafficLaws :
    TrafficInv demo ∧ step demo = .next (after .microtick { demo with pending := [] }) :=
  ⟨demo_traffic, rfl⟩

theorem witness_StepKeepsStreamLaws :
    Inv demo ∧ step demo = .next (after .microtick { demo with pending := [] }) :=
  ⟨demo_inv, rfl⟩

theorem witness_StepKeepsUnitLaws :
    WindowInv demo.window ∧ AccountingInv demo ∧ PortInv demo ∧
      step demo = .next (after .microtick { demo with pending := [] }) :=
  ⟨demo_inv.window, demo_inv.accounting, demo_inv.port, rfl⟩

end Sys2Proof.Tests
end

section
/-! The memory link (R9): the header of a request reads back, the numbering of the south tags, and what the retry after
an issue leaves unchanged. -/

namespace Sys2Proof

/-! ### The request header -/

theorem Kind.code_lt_two (k : Kind) : k.code < 2 := by
  cases k <;> decide

/-- The fields of a request lie side by side below bit 60 (TABLE 85), so that the sum does not wrap. -/
theorem Request.toMessage_header_toNat (r : Request) :
    r.toMessage.header.toNat = r.kind.code + 2 ^ 1 * r.source.toNat + 2 ^ 7 * r.tag.toNat + 2 ^ 15 * r.beats.toNat
      + 2 ^ 20 * r.address.toNat := by
  have hkind := r.kind.code_lt_two
  rw [Request.toMessage, BitVec.toNat_ofNat, Nat.mod_eq_of_lt]
  omega

/-- A field of a message header is its part of the header's number. -/
theorem extractLsb'_eq_iff {w : Nat} (h : BitVec 64) (at_ : Nat) (x : BitVec w) :
    h.extractLsb' at_ w = x ↔ h.toNat / 2 ^ at_ % 2 ^ w = x.toNat := by
  rw [← BitVec.toNat_inj, BitVec.extractLsb'_toNat, Nat.shiftRight_eq_div_pow]

theorem Request.toMessage_kind (r : Request) : r.toMessage.header.extractLsb' 0 1 = BitVec.ofNat 1 r.kind.code := by
  rw [extractLsb'_eq_iff, r.toMessage_header_toNat, BitVec.toNat_ofNat]
  omega

theorem Request.toMessage_source (r : Request) : r.toMessage.header.extractLsb' 1 6 = r.source := by
  have hkind := r.kind.code_lt_two
  rw [extractLsb'_eq_iff, r.toMessage_header_toNat]
  omega

theorem Request.toMessage_tag (r : Request) : r.toMessage.header.extractLsb' 7 8 = r.tag := by
  have hkind := r.kind.code_lt_two
  rw [extractLsb'_eq_iff, r.toMessage_header_toNat]
  omega

theorem Request.toMessage_beats (r : Request) : r.toMessage.header.extractLsb' 15 5 = r.beats := by
  have hkind := r.kind.code_lt_two
  rw [extractLsb'_eq_iff, r.toMessage_header_toNat]
  omega

theorem Request.toMessage_address (r : Request) : r.toMessage.header.extractLsb' 20 40 = r.address := by
  have hkind := r.kind.code_lt_two
  rw [extractLsb'_eq_iff, r.toMessage_header_toNat]
  omega

/-- Bit 0 of the header is the kind. -/
theorem Request.toMessage_getLsbD_zero (r : Request) : r.toMessage.header.getLsbD 0 = (r.kind == .write) := by
  have hbit : r.toMessage.header.getLsbD 0 = (r.toMessage.header.extractLsb' 0 1).getLsbD 0 := by simp
  rw [hbit, r.toMessage_kind]
  cases r.kind <;> rfl

/-- What is sent reads back field for field (R174). -/
@[simp] theorem Request.ofMessage_toMessage (r : Request) : Request.ofMessage r.toMessage = r := by
  rw [Request.ofMessage, r.toMessage_getLsbD_zero, r.toMessage_source, r.toMessage_tag, r.toMessage_beats,
    r.toMessage_address]
  obtain ⟨kind, source, tag, address, beats, data⟩ := r
  cases kind <;> rfl

namespace Machine

/-! ### The south tag -/

/-- The tag of a slot under a generation is below 256, so that its number does not wrap (R9). -/
theorem southTag_toNat (i : SlotIx) (g : BitVec 2) : (southTag i g).toNat = 4 * i.val + g.toNat := by
  rw [southTag, BitVec.toNat_ofNat, Nat.mod_eq_of_lt]
  omega

/-- A tag gives its slot and its generation back: the quotient and the rest by 4. -/
theorem southTag_eq_iff (i : SlotIx) (g : BitVec 2) (tag : BitVec 8) :
    southTag i g = tag ↔ i.val = tag.toNat / 4 ∧ g.toNat = tag.toNat % 4 := by
  rw [← BitVec.toNat_inj, southTag_toNat]
  omega

theorem southTag_injective {i j : SlotIx} {g h : BitVec 2} (heq : southTag i g = southTag j h) : i = j ∧ g = h := by
  obtain ⟨hi, hg⟩ := (southTag_eq_iff i g _).mp heq
  obtain ⟨hj, hh⟩ := (southTag_eq_iff j h _).mp rfl
  exact ⟨Fin.ext (hi.trans hj.symm), BitVec.eq_of_toNat_eq (hg.trans hh.symm)⟩

theorem southTag_surjective (tag : BitVec 8) : ∃ i g, southTag i g = tag := by
  have hslot : tag.toNat / 4 < 64 := by omega
  refine ⟨⟨tag.toNat / 4, hslot⟩, BitVec.ofNat 2 tag.toNat, (southTag_eq_iff ..).mpr ⟨rfl, ?_⟩⟩
  exact BitVec.toNat_ofNat ..

/-! ### What an admission attempt leaves unchanged -/

variable (s : State)

@[simp] theorem State.stall_slots (r : Request) (i : StreamIx) : (s.stall r i).slots = s.slots := by
  unfold State.stall
  split <;> simp

@[simp] theorem State.stall_southSent (r : Request) (i : StreamIx) : (s.stall r i).southSent = s.southSent := by
  unfold State.stall
  split <;> simp

@[simp] theorem State.admitOwed_slots (r : Request) (k : ReplyKind) (i : StreamIx) :
    (s.admitOwed r k i).slots = s.slots := by
  simp [State.admitOwed]

@[simp] theorem State.admitOwed_southSent (r : Request) (k : ReplyKind) (i : StreamIx) :
    (s.admitOwed r k i).southSent = s.southSent := by
  simp [State.admitOwed]

@[simp] theorem State.admitWaiting_slots (r : Request) (i : StreamIx) : (s.admitWaiting r i).slots = s.slots := by
  simp [State.admitWaiting]

@[simp] theorem State.admitWaiting_southSent (r : Request) (i : StreamIx) :
    (s.admitWaiting r i).southSent = s.southSent := by
  simp [State.admitWaiting]

@[simp] theorem State.attempt_slots (r : Request) : (s.attempt r).slots = s.slots := by
  obtain ⟨i, -, h⟩ | ⟨k, i, -, h⟩ | ⟨i, -, h⟩ := s.attempt_cases r <;> simp [h]

@[simp] theorem State.attempt_southSent (r : Request) : (s.attempt r).southSent = s.southSent := by
  obtain ⟨i, -, h⟩ | ⟨k, i, -, h⟩ | ⟨i, -, h⟩ := s.attempt_cases r <;> simp [h]

@[simp] theorem State.retry_slots : s.retry.slots = s.slots := by
  obtain ⟨r, i, -, h⟩ | ⟨-, h⟩ := s.retry_cases <;> simp [h]

@[simp] theorem State.retry_southSent : s.retry.southSent = s.southSent := by
  obtain ⟨r, i, -, h⟩ | ⟨-, h⟩ := s.retry_cases <;> simp [h]

/-! ### The issue -/

/-- An issue sends the south request and nothing else (R8). -/
@[simp] theorem State.issueTo_southSent (e : PendingEntry) (i : SlotIx) :
    (s.issueTo e i).southSent = s.southSent ++ [(s.southRequest e i).toMessage] := by
  simp [State.issueTo]

/-- An issue fills its slot and no other (R90). -/
@[simp] theorem State.issueTo_slots (e : PendingEntry) (i : SlotIx) :
    (s.issueTo e i).slots = setAt s.slots i (s.slots[i].filled (s.slotRequest e)) := by
  simp [State.issueTo]

/-- With a chosen head and a FREE slot, ISSUE issues the one to the other (R87). -/
theorem exec_issue_of_chosen {s : State} {e : PendingEntry} {i : SlotIx} (hrst : s.rst = false)
    (hhead : s.chooseHead = some e) (hslot : s.lowestFree = some i) : exec .issue s = .next (s.issueTo e i) := by
  have harm : exec .issue s = execIssue s := rfl
  simp [harm, execIssue, hrst, hhead, hslot]

end Machine

/-- Settles O12: the tag's number splits by 4 into slot and generation, and the issue's message reads back as the
south request. -/
theorem southTagNamesSlotAndGeneration : Obligations.SouthTagNamesSlotAndGeneration := by
  unfold Obligations.SouthTagNamesSlotAndGeneration
  refine ⟨Machine.southTag_toNat, fun _ _ _ _ => Machine.southTag_injective, Machine.southTag_surjective, ?_⟩
  intro s e i hrst hhead hslot
  refine ⟨s.issueTo e i, (s.southRequest e i).toMessage, s.slotRequest e,
    Machine.exec_issue_of_chosen hrst hhead hslot, s.issueTo_southSent e i, ?_, rfl, ?_⟩
  · simp [Machine.Slot.filled]
  · exact Request.ofMessage_toMessage _

end Sys2Proof
end

section
/-! Classification (R18): the four tests of a stream in numbers, and the search for the lowest that meets them. -/

namespace Sys2Proof.Machine

/-! ### The four tests -/

/-- An address has 40 bits, so that its page has 28 (R2). -/
@[simp] theorem pageOf_toNat (address : BitVec 40) : (pageOf address).toNat = address.toNat / 4096 := by
  rw [pageOf, BitVec.toNat_ofNat, Nat.mod_eq_of_lt]
  omega

theorem StreamEntry.matchesRequest_iff (e : StreamEntry) (source : BitVec 6) (page : BitVec 28) (kind : Kind) :
    e.matchesRequest source page kind = true ↔
      e.valid = true ∧ (e.fields.sourceLow.toNat ≤ source.toNat ∧ source.toNat ≤ e.fields.sourceHigh.toNat) ∧
        (e.fields.pageBase.toNat ≤ page.toNat ∧ page.toNat ≤ e.fields.pageLimit.toNat) ∧
        e.fields.kinds.has kind = true := by
  simp [StreamEntry.matchesRequest, BitVec.le_def, and_assoc]

/-- The tests read the valid flag and the match fields alone. -/
theorem StreamEntry.matchesRequest_congr {e e' : StreamEntry} (hvalid : e'.valid = e.valid)
    (hfields : e'.fields = e.fields) : e'.matchesRequest = e.matchesRequest := by
  funext source page kind
  rw [StreamEntry.matchesRequest, StreamEntry.matchesRequest, hvalid, hfields]

/-- The stream is one of 1 to 15 and meets the tests of R18 for the request: what `State.classify` searches for. -/
def State.takesRequest (s : State) (r : Request) (i : StreamIx) : Bool :=
  i != 0 && s.streams[i].matchesRequest r.source (pageOf r.address) r.kind

variable {s : State} {r : Request}

theorem State.takesRequest_iff {i : StreamIx} :
    s.takesRequest r i = true ↔
      i ≠ 0 ∧ s.streams[i].matchesRequest r.source (pageOf r.address) r.kind = true := by
  simp [State.takesRequest]

/-! ### The search -/

theorem State.classify_eq_find? : s.classify r = (Fin.find? (s.takesRequest r)).getD 0 := by
  rw [Fin.find?_eq_find?_finRange]
  rfl

theorem State.classify_of_lowest {i : StreamIx} (htakes : s.takesRequest r i = true)
    (hlowest : ∀ j, j < i → ¬ s.takesRequest r j = true) : s.classify r = i := by
  have hfind : Fin.find? (s.takesRequest r) = some i :=
    Fin.find?_eq_some_iff.mpr ⟨htakes, fun j hj => Bool.eq_false_of_not_eq_true (hlowest j hj)⟩
  rw [State.classify_eq_find?, hfind, Option.getD_some]

theorem State.classify_of_none (hnone : ∀ i, ¬ s.takesRequest r i = true) : s.classify r = 0 := by
  have hfind : Fin.find? (s.takesRequest r) = none :=
    Fin.find?_eq_none_iff.mpr fun i => Bool.eq_false_of_not_eq_true (hnone i)
  rw [State.classify_eq_find?, hfind, Option.getD_none]

theorem State.classify_congr {t : State}
    (h : ∀ i : StreamIx, t.streams[i].valid = s.streams[i].valid ∧ t.streams[i].fields = s.streams[i].fields) :
    t.classify r = s.classify r := by
  have htakes : t.takesRequest r = s.takesRequest r := by
    funext i
    obtain ⟨hvalid, hfields⟩ := h i
    rw [State.takesRequest, State.takesRequest, StreamEntry.matchesRequest_congr hvalid hfields]
  rw [State.classify_eq_find?, State.classify_eq_find?, htakes]

/-! ### The stream of a request -/

theorem State.streamFor_of_malformed (h : malformed r = true) : s.streamFor r = 0 := if_pos h

theorem State.streamFor_of_wellFormed (h : malformed r = false) : s.streamFor r = s.classify r :=
  if_neg (by simp [h])

theorem State.streamFor_congr {t : State} (h : t.classify r = s.classify r) : t.streamFor r = s.streamFor r := by
  rw [State.streamFor, State.streamFor, h]

end Sys2Proof.Machine

namespace Sys2Proof

/-- Settles O8: the statement's four tests are those the classification searches with, and its search over the indices
in ascending order finds the lowest. -/
theorem classificationIsLowestMatch : Obligations.ClassificationIsLowestMatch := by
  unfold Obligations.ClassificationIsLowestMatch
  intro s r meets
  have hmeets (i : StreamIx) : meets i ↔ s.takesRequest r i = true := by
    rw [Machine.State.takesRequest_iff, Machine.StreamEntry.matchesRequest_iff, Machine.pageOf_toNat]
    rfl
  simp only [hmeets]
  refine ⟨Machine.State.streamFor_of_malformed, fun hwf => ?_,
    fun t h => Machine.State.streamFor_congr (Machine.State.classify_congr h)⟩
  rw [Machine.State.streamFor_of_wellFormed hwf]
  exact ⟨fun i => Machine.State.classify_of_lowest, Machine.State.classify_of_none⟩

end Sys2Proof
end

section
/-! The gate state line by line (TABLE 32), the arbiter's choice as a READY head, and stream 0 after both resets. -/

namespace Sys2Proof

theorem countWhere_eq_zero_iff {α : Type} {n : Nat} (p : α → Bool) (v : Vector α n) :
    countWhere p v = 0 ↔ ∀ i : Fin n, p v[i] = false := by
  rw [countWhere, List.countP_eq_zero]
  constructor
  · intro h i
    exact Bool.eq_false_of_not_eq_true (h v[i] (by simp))
  · intro h a ha
    obtain ⟨j, hj, rfl⟩ := Vector.getElem_of_mem (Vector.mem_toList_iff.mp ha)
    simpa using h ⟨j, hj⟩

namespace Machine

variable {s : State} {i : StreamIx}

/-! ### The lines of TABLE 32 -/

/-- A stream's active phase binding names a CLOSED channel (TABLE 32, line 4). -/
def State.BoundToClosed (s : State) (i : StreamIx) : Prop :=
  ∃ c, s.streams[i].active.phaseBinding = some c ∧ s.window.phaseOpen[c] = false

/-- A stream's active budget is enabled and its balance is 0 or less (TABLE 32, line 5). -/
def State.BudgetSpent (s : State) (i : StreamIx) : Prop :=
  s.streams[i].active.budgetEnable = true ∧ s.streams[i].balance ≤ 0

theorem State.not_boundToClosed_of_none (h : s.streams[i].active.phaseBinding = none) : ¬ s.BoundToClosed i := by
  rintro ⟨c, hbound, -⟩
  rw [h] at hbound
  cases hbound

theorem State.not_budgetSpent_of_disabled (h : s.streams[i].active.budgetEnable = false) : ¬ s.BudgetSpent i := by
  rintro ⟨henabled, -⟩
  rw [h] at henabled
  cases henabled

theorem State.gate_of_not_valid (hvalid : s.streams[i].valid = false) : s.gate i = .invalid := by
  simp [State.gate, hvalid, -Fin.getElem_fin]

theorem State.gate_of_paused (hvalid : s.streams[i].valid = true) (hpaused : s.streams[i].paused = true) :
    s.gate i = .paused := by
  simp [State.gate, hvalid, hpaused, -Fin.getElem_fin]

section
variable (hvalid : s.streams[i].valid = true) (hpaused : s.streams[i].paused = false)
include hvalid hpaused

theorem State.gate_of_stopped (hstopped : s.window.running = false) : s.gate i = .ready := by
  simp [State.gate, hvalid, hpaused, hstopped, -Fin.getElem_fin]

theorem State.gate_of_closed (hrunning : s.window.running = true) (hclosed : s.BoundToClosed i) :
    s.gate i = .waitPhase := by
  obtain ⟨c, hbound, hc⟩ := hclosed
  simp [State.gate, hvalid, hpaused, hrunning, hbound, hc, -Fin.getElem_fin]

/-- Past line 4 the budget alone decides: the phase condition fails when there is no binding and when the bound channel
is OPEN. -/
theorem State.gate_of_not_closed (hrunning : s.window.running = true) (hopen : ¬ s.BoundToClosed i) :
    (s.BudgetSpent i → s.gate i = .waitBudget) ∧ (¬ s.BudgetSpent i → s.gate i = .ready) := by
  cases hbound : s.streams[i].active.phaseBinding with
  | none => simp [State.gate, State.BudgetSpent, hvalid, hpaused, hrunning, hbound, -Fin.getElem_fin]
  | some c =>
    have hc : s.window.phaseOpen[c] = true := by
      by_contra hne
      exact hopen ⟨c, hbound, Bool.eq_false_of_not_eq_true hne⟩
    simp [State.gate, State.BudgetSpent, hvalid, hpaused, hrunning, hbound, hc, -Fin.getElem_fin]

/-- Without a budget and a binding, no line after PAUSED applies, in both window states (R50). -/
theorem State.gate_of_unregulated (hbudget : s.streams[i].active.budgetEnable = false)
    (hbinding : s.streams[i].active.phaseBinding = none) : s.gate i = .ready := by
  cases hrunning : s.window.running with
  | false => exact State.gate_of_stopped hvalid hpaused hrunning
  | true =>
    exact (State.gate_of_not_closed hvalid hpaused hrunning (State.not_boundToClosed_of_none hbinding)).2
      (State.not_budgetSpent_of_disabled hbudget)

end

/-! ### The arbiter's choice -/

theorem State.mem_readyHeads_iff {e : PendingEntry} :
    e ∈ s.readyHeads ↔ e ∈ s.entries ∧ s.head e.stream = some e ∧ s.gate e.stream = .ready := by
  simp [State.readyHeads]

/-- The arbiter keeps its choice so far or takes the younger head (R88). -/
theorem State.betterHead_eq_or (best : Option PendingEntry) (e : PendingEntry) :
    s.betterHead best e = some e ∨ s.betterHead best e = best := by
  unfold State.betterHead
  split
  · exact .inl rfl
  · split
    · exact .inl rfl
    · exact .inr rfl

theorem State.mem_readyHeads_of_chooseHead {e : PendingEntry} (h : s.chooseHead = some e) : e ∈ s.readyHeads := by
  have hall : ∀ x, s.chooseHead = some x → x ∈ s.readyHeads := by
    refine List.foldlRecOn (motive := fun best => ∀ x, best = some x → x ∈ s.readyHeads) s.readyHeads s.betterHead
      (by simp) ?_
    intro best hbest y hy x hx
    obtain htake | hkeep := State.betterHead_eq_or (s := s) best y
    · obtain rfl : y = x := Option.some.inj (htake.symm.trans hx)
      exact hy
    · exact hbest x (hkeep.symm.trans hx)
  exact hall e h

/-! ### The stream table after a reset -/

@[simp] theorem State.powerOn_streams (s : State) : s.powerOn.streams = State.reset.streams := rfl

@[simp] theorem State.softReset_streams (s : State) : s.softReset.streams = State.reset.streams := rfl

/-- Stream 0 alone is valid after a reset (R17, R65). -/
theorem State.reset_streams_zero : State.reset.streams[(0 : StreamIx)] = StreamEntry.reset true := by
  simp [State.reset]

theorem exec_rstRelease_of_rst (hrst : s.rst = true) : exec .rstRelease s = .next s.cutFrame.powerOn := by
  have harm : exec .rstRelease s = execRstRelease s := rfl
  rw [harm, execRstRelease, if_pos hrst]

theorem State.slotsNotFree_eq_zero_iff : s.slotsNotFree = 0 ↔ ∀ i : SlotIx, s.slots[i].use = .free := by
  simp [State.slotsNotFree, countWhere_eq_zero_iff, Slot.isFree]

/-- A received SOFT RESET is taken when the list is empty and every slot is FREE (R173). -/
theorem exec_softReset_of_idle (hframe : s.inFrame = true) (hlist : s.entries = [])
    (hslots : ∀ i : SlotIx, s.slots[i].use = .free) :
    exec .softReset s = .next (s.settleSample.softReset.answered 0x02 .ok []) := by
  have harm : exec .softReset s = execSoftReset s := rfl
  have hnone : s.settleSample.slotsNotFree = 0 := State.slotsNotFree_eq_zero_iff.mpr hslots
  rw [harm, execSoftReset, s.runCommand_settles 0x02 _ hframe rfl, State.serve]
  simp [hlist, hnone]

/-- Both resets leave stream 0 valid, not paused and unregulated, whatever it was (R65). -/
theorem streams_zero_of_reset_taken {t : State}
    (h : (s.rst = true ∧ exec .rstRelease s = .next t) ∨
      (s.inFrame = true ∧ s.entries = [] ∧ (∀ i : SlotIx, s.slots[i].use = .free) ∧ exec .softReset s = .next t)) :
    t.streams[(0 : StreamIx)] = StreamEntry.reset true := by
  obtain ⟨hrst, hexec⟩ | ⟨hframe, hlist, hslots, hexec⟩ := h
  · rw [exec_rstRelease_of_rst hrst] at hexec
    cases hexec
    rw [State.powerOn_streams, State.reset_streams_zero]
  · rw [exec_softReset_of_idle hframe hlist hslots] at hexec
    cases hexec
    rw [State.answered_streams, State.softReset_streams, State.reset_streams_zero]

end Machine

/-- Settles O10: one lemma per line of TABLE 32, the choice as a member of the READY heads, and stream 0 of the reset
stream table as a stream without regulation. -/
theorem gateStateIsFirstLine : Obligations.GateStateIsFirstLine := by
  unfold Obligations.GateStateIsFirstLine
  refine ⟨fun s i => ⟨Machine.State.gate_of_not_valid, fun hvalid => ⟨Machine.State.gate_of_paused hvalid,
    fun hpaused => ⟨Machine.State.gate_of_stopped hvalid hpaused, fun hrunning =>
      ⟨Machine.State.gate_of_closed hvalid hpaused hrunning,
        Machine.State.gate_of_not_closed hvalid hpaused hrunning⟩⟩⟩, ?_⟩, ?_, ?_⟩
  · rintro ⟨hvalid, hpaused, hbudget, hbinding⟩
    exact Machine.State.gate_of_unregulated hvalid hpaused hbudget hbinding
  · intro s e hchoice
    obtain ⟨-, -, hready⟩ := Machine.State.mem_readyHeads_iff.mp (Machine.State.mem_readyHeads_of_chooseHead hchoice)
    exact hready
  · intro s t htaken
    have hzero := Machine.streams_zero_of_reset_taken htaken
    have hvalid := congrArg Machine.StreamEntry.valid hzero
    have hpaused := congrArg Machine.StreamEntry.paused hzero
    have hbudget := congrArg (·.active.budgetEnable) hzero
    have hbinding := congrArg (·.active.phaseBinding) hzero
    exact ⟨Machine.State.gate_of_unregulated hvalid hpaused hbudget hbinding, hvalid, hpaused, hbudget, hbinding⟩

end Sys2Proof
end

section
/-! The argument codes of HISTOGRAM SET (R140, TABLE 87), and the commands and captures that clear the histogram
(R145, R152). -/

namespace Sys2Proof.Machine

/-! ### Argument codes -/

theorem latencyKindArg_eq_some_iff {b : Byte} {k : LatencyKind} :
    latencyKindArg b = some k ↔
      b.toNat ≤ 2 ∧ k = (if b = 0 then .wait else if b = 1 then .memory else .total) := by
  unfold latencyKindArg
  split
  case h_1 h =>
    obtain rfl : b = 0 := BitVec.eq_of_toNat_eq h
    simp [eq_comm]
  case h_2 h =>
    obtain rfl : b = 1 := BitVec.eq_of_toNat_eq h
    simp [eq_comm]
  case h_3 h =>
    obtain rfl : b = 2 := BitVec.eq_of_toNat_eq h
    simp [eq_comm]
  case h_4 h0 h1 h2 =>
    have hlarge : ¬ b.toNat ≤ 2 := by
      intro hle
      obtain hcode | hcode | hcode : b.toNat = 0 ∨ b.toNat = 1 ∨ b.toNat = 2 := by omega
      exacts [h0 hcode, h1 hcode, h2 hcode]
    simp [hlarge]

theorem filterArg_any : filterArg 0xFF = some none := rfl

theorem filterArg_of_stream {b : Byte} {k : StreamIx} (h : b.toNat = k.val) : filterArg b = some (some k) := by
  have hstream : b.toNat < 16 := h ▸ k.isLt
  have hne : b ≠ 0xFF := by
    rintro rfl
    exact absurd hstream (by decide)
  rw [filterArg, if_neg hne, indexArg, dif_pos hstream]
  simp [h]

theorem exists_filterArg_iff {b : Byte} :
    (∃ f, filterArg b = some f) ↔ b.toNat ≤ 15 ∨ b.toNat = 255 := by
  constructor
  · rintro ⟨f, hf⟩
    by_cases hany : b = 0xFF
    · exact .inr (congrArg BitVec.toNat hany)
    · by_cases hstream : b.toNat < 16
      · exact .inl (by omega)
      · rw [filterArg, if_neg hany, indexArg, dif_neg hstream] at hf
        cases hf
  · rintro (hstream | hany)
    · exact ⟨_, filterArg_of_stream (k := ⟨b.toNat, by omega⟩) rfl⟩
    · obtain rfl : b = 0xFF := BitVec.eq_of_toNat_eq hany
      exact ⟨none, filterArg_any⟩

/-- Neighbours ascend exactly when all pairs do. -/
theorem ascending_iff {b : Vector Nat 7} :
    ascending b = true ↔ 1 ≤ b[0] ∧ ∀ i j : Fin 7, i < j → b[i] < b[j] := by
  simp only [ascending, Bool.and_eq_true, decide_eq_true_eq, and_assoc]
  refine and_congr_right fun _ => ⟨fun ⟨h01, h12, h23, h34, h45, h56⟩ => ?_, fun h =>
    ⟨h 0 1 (by decide), h 1 2 (by decide), h 2 3 (by decide), h 3 4 (by decide), h 4 5 (by decide), h 5 6 (by decide)⟩⟩
  have hmono : StrictMono fun i : Fin 7 => b[i] :=
    Fin.strictMono_iff_lt_succ.mpr fun i => by
      fin_cases i <;> assumption
  exact fun i j hij => hmono hij

/-! ### The configuration of HISTOGRAM SET -/

theorem histogramArgs_eq_some_iff {a : HistogramSetArgs} {c : HistogramConfig} :
    histogramArgs a = some c ↔
      (a.flags.toNat < 4 ∧ ascending (mapAll BitVec.toNat a.boundaries) = true) ∧
        latencyKindArg a.latencyKind = some c.latencyKind ∧ filterArg a.filter = some c.filter ∧
        c.includeMemerr = a.flags.getLsbD 0 ∧ c.boundaries = mapAll BitVec.toNat a.boundaries ∧
        c.keepAddress = a.flags.getLsbD 1 := by
  unfold histogramArgs flagsArg
  cases latencyKindArg a.latencyKind with
  | none => simp
  | some kind =>
    cases filterArg a.filter with
    | none => simp
    | some filter =>
      by_cases hflags : a.flags.toNat < 4
      · by_cases hbounds : ascending (mapAll BitVec.toNat a.boundaries) = true
        · cases c
          simp [hflags, hbounds, eq_comm]
        · simp [hflags, hbounds]
      · simp [hflags]

/-- R140 accepts the arguments that have a configuration, and no others. -/
theorem exists_histogramArgs_iff {a : HistogramSetArgs} :
    (∃ c, histogramArgs a = some c) ↔ histogramSetAccepted a := by
  have hascending : ascending (mapAll BitVec.toNat a.boundaries) = true ↔
      1 ≤ a.boundaries[0].toNat ∧ ∀ i j : Fin 7, i < j → a.boundaries[i].toNat < a.boundaries[j].toNat := by
    simp [ascending_iff]
  constructor
  · rintro ⟨c, hc⟩
    obtain ⟨⟨hflags, hbounds⟩, hkind, hfilter, -⟩ := histogramArgs_eq_some_iff.mp hc
    obtain ⟨hkind, -⟩ := latencyKindArg_eq_some_iff.mp hkind
    exact ⟨hkind, exists_filterArg_iff.mp ⟨_, hfilter⟩, Nat.le_of_lt_succ hflags, hascending.mp hbounds⟩
  · rintro ⟨hkind, hfilter, hflags, hbounds⟩
    obtain ⟨filter, hfilter⟩ := exists_filterArg_iff.mpr hfilter
    exact ⟨⟨_, filter, _, _, _⟩, histogramArgs_eq_some_iff.mpr
      ⟨⟨Nat.lt_succ_of_le hflags, hascending.mpr hbounds⟩, latencyKindArg_eq_some_iff.mpr ⟨hkind, rfl⟩, hfilter,
        rfl, rfl, rfl⟩⟩

/-! ### The commands -/

section
variable {s : State} (hframe : s.inFrame = true) (hsample : s.accounting.sampleDue = none)
include hframe hsample

theorem exec_histogramSet_of_refused {a : HistogramSetArgs} (hargs : histogramArgs a = none) :
    exec (.histogramSet a) s = .next (s.answered 0x50 .badArg []) := by
  have harm : exec (.histogramSet a) s = execHistogramSet a s := rfl
  rw [harm, execHistogramSet, s.runCommand_inFrame _ _ hframe hsample, hargs]
  rfl

theorem exec_histogramSet_of_accepted {a : HistogramSetArgs} {c : HistogramConfig}
    (hargs : histogramArgs a = some c) :
    exec (.histogramSet a) s =
      .next ((s.withHistogram { config := c, bins := clearBins, worst := none }).answered 0x50 .ok []) := by
  have harm : exec (.histogramSet a) s = execHistogramSet a s := rfl
  rw [harm, execHistogramSet, s.runCommand_inFrame _ _ hframe hsample, hargs]
  rfl

theorem exec_histogramClear_of_inFrame :
    exec .histogramClear s =
      .next ((s.withHistogram s.accounting.histogram.cleared).answered 0x52 .ok []) := by
  have harm : exec .histogramClear s = execHistogramClear s := rfl
  rw [harm, execHistogramClear, s.runCommand_inFrame _ _ hframe hsample]
  rfl

end

/-! ### Captures -/

section
variable (s : State) (k : CaptureCause) (n : Option (BitVec 32)) (b : Vector Int 16)

/-- A capture that is stored clears the accounting unit by its options (R152). -/
theorem State.captureAttempt_accounting_of_room (hroom : s.capture.records.length < Config.captureCapacity) :
    (s.captureAttempt k n b).accounting = s.accounting.clearedBy s.capture.options := by
  rw [State.captureAttempt, if_neg (Nat.not_le.mpr hroom)]
  rfl

/-- A capture that is dropped leaves the accounting unit as it is (R152). -/
theorem State.captureAttempt_accounting_of_full (hfull : Config.captureCapacity ≤ s.capture.records.length) :
    (s.captureAttempt k n b).accounting = s.accounting := by
  rw [State.captureAttempt, if_pos hfull]
  rfl

end

end Sys2Proof.Machine

namespace Sys2Proof

/-- Settles O48: the arguments that R140 accepts are those that have a configuration, each field of which is read off
its code; and the clearing of a stored capture is that of HISTOGRAM CLEAR. -/
theorem histogramCommandsClear : Obligations.HistogramCommandsClear := by
  unfold Obligations.HistogramCommandsClear
  refine ⟨fun s hframe hsample => ⟨fun a => ⟨fun hrefused => ?_, fun haccepted => ?_⟩, ?_⟩, ?_⟩
  · have hnone : Machine.histogramArgs a = none :=
      Option.eq_none_iff_forall_ne_some.mpr fun c hc => hrefused (Machine.exists_histogramArgs_iff.mp ⟨c, hc⟩)
    exact Machine.exec_histogramSet_of_refused hframe hsample hnone
  · obtain ⟨c, hc⟩ := Machine.exists_histogramArgs_iff.mpr haccepted
    obtain ⟨-, hkind, hfilter, hmemerr, hbounds, haddress⟩ := Machine.histogramArgs_eq_some_iff.mp hc
    obtain ⟨-, hkind⟩ := Machine.latencyKindArg_eq_some_iff.mp hkind
    refine ⟨c, Machine.exec_histogramSet_of_accepted hframe hsample hc, hkind, fun hany => ?_, fun k hk => ?_,
      hmemerr, haddress, fun i => ?_⟩
    · rw [hany, Machine.filterArg_any] at hfilter
      exact (Option.some.inj hfilter).symm
    · rw [Machine.filterArg_of_stream hk] at hfilter
      exact (Option.some.inj hfilter).symm
    · simp [hbounds]
  · exact Machine.exec_histogramClear_of_inFrame hframe hsample
  · intro s t k n b hclear hframe hsample
    refine ⟨fun hroom ht => ?_, fun hfull => ?_⟩
    · rw [Machine.exec_histogramClear_of_inFrame hframe hsample] at ht
      cases ht
      rw [Machine.State.captureAttempt_accounting_of_room s k n b hroom, Machine.AccountingUnit.clearedBy, hclear]
      rfl
    · rw [Machine.State.captureAttempt_accounting_of_full s k n b hfull]

end Sys2Proof
end

section
/-! The commands that write the capture options and the alert sets (R151, R161), and the level of ALERT_N (R160). -/

namespace Sys2Proof.Machine

/-! ### The option byte of CAPTURE SET -/

theorem captureOptionsArg_of_large {b : Byte} (h : 32 ≤ b.toNat) : captureOptionsArg b = none := by
  simp [captureOptionsArg, flagsArg, h]

theorem captureOptionsArg_of_small {b : Byte} (h : b.toNat < 32) :
    captureOptionsArg b =
      some { includeHistogram := b.getLsbD 0, includeBalances := b.getLsbD 1, clearCounters := b.getLsbD 2
             clearHistogram := b.getLsbD 3, captureOnFreeze := b.getLsbD 4 } := by
  simp [captureOptionsArg, flagsArg, h]

/-! ### Causes and their sets -/

@[simp] theorem Cause.mem_all (k : Cause) : k ∈ Cause.all := by cases k <;> decide

/-- The list of the causes runs in the order of their bits, so that a cause is read off its bit (TABLE 87). -/
theorem Cause.all_getElem?_bit (k : Cause) : Cause.all[k.bit]? = some k := by cases k <;> rfl

theorem Cause.bit_injective : Function.Injective Cause.bit := by
  intro j k hbit
  have hsame : some j = some k := by rw [← Cause.all_getElem?_bit, hbit, Cause.all_getElem?_bit]
  exact Option.some.inj hsame

theorem State.causePending_capture (s : State) : s.causePending .capture = !s.capture.records.isEmpty := rfl

theorem State.causePending_of_sticky (s : State) {k : Cause} (h : k ≠ .capture) :
    s.causePending k = s.alert.sticky.has k := by
  cases k with
  | capture => exact absurd rfl h
  | _ => rfl

/-- An acknowledgement takes the named causes out of the sticky set and no others (R161). -/
theorem StickyCauses.has_acknowledge (named : Byte) (c : StickyCauses) (k : Cause) :
    (c.acknowledge named).has k = (c.has k && !named.getLsbD k.bit) := by
  cases k <;> rfl

/-- The pending set after an acknowledgement: CAPTURE follows the queue and stays (R159, R161). -/
theorem State.causePending_acknowledge (s : State) (named : Byte) (k : Cause) :
    (s.withSticky (StickyCauses.acknowledge named)).causePending k =
      (s.causePending k && (decide (k = .capture) || !named.getLsbD k.bit)) := by
  by_cases hcapture : k = .capture
  · subst hcapture
    simp [State.causePending_capture]
  · simp [State.causePending_of_sticky _ hcapture, StickyCauses.has_acknowledge, hcapture]

/-- An answer to a frame leaves the pending set as it is. -/
@[simp] theorem State.causePending_answered (s : State) (code : Byte) (st : Status) (d : List Byte) (k : Cause) :
    (s.answered code st d).causePending k = s.causePending k := by
  cases k <;> rfl

/-! ### The level of ALERT_N -/

theorem State.alertLow_iff (s : State) :
    s.alertLow = true ↔
      s.rst = false ∧ ∃ k : Cause, s.causePending k = true ∧ s.alert.enabled.getLsbD k.bit = true := by
  simp [State.alertLow, State.causeEnabled]

/-! ### The commands -/

section
variable {s : State} (hframe : s.inFrame = true) (hsample : s.accounting.sampleDue = none)
include hframe hsample

theorem exec_captureSet_of_refused {period options : Byte} (hoptions : captureOptionsArg options = none) :
    exec (.captureSet period options) s = .next (s.answered 0x60 .badArg []) := by
  have harm : exec (.captureSet period options) s = execCaptureSet period options s := rfl
  rw [harm, execCaptureSet, s.runCommand_inFrame _ _ hframe hsample, hoptions]
  rfl

theorem exec_captureSet_of_accepted {period options : Byte} {o : CaptureOptions}
    (hoptions : captureOptionsArg options = some o) :
    exec (.captureSet period options) s =
      .next ((s.withCapture { s.capture with options := o, period := period.toNat, periodicCount := 0 }).answered 0x60
        .ok []) := by
  have harm : exec (.captureSet period options) s = execCaptureSet period options s := rfl
  rw [harm, execCaptureSet, s.runCommand_inFrame _ _ hframe hsample, hoptions]
  rfl

theorem exec_alertMask_of_inFrame (causes : Byte) :
    exec (.alertMask causes) s =
      .next (({ s with alert := { s.alert with enabled := causes } } : State).answered 0x72 .ok []) := by
  have harm : exec (.alertMask causes) s = execAlertMask causes s := rfl
  rw [harm, execAlertMask, s.runCommand_inFrame _ _ hframe hsample]
  rfl

theorem exec_alertAck_of_inFrame (causes : Byte) :
    exec (.alertAck causes) s =
      .next ((s.withSticky (StickyCauses.acknowledge causes)).answered 0x71 .ok []) := by
  have harm : exec (.alertAck causes) s = execAlertAck causes s := rfl
  rw [harm, execAlertAck, s.runCommand_inFrame _ _ hframe hsample]
  rfl

end

end Sys2Proof.Machine

namespace Sys2Proof

/-- Settles O49: the option byte has a reading exactly below 32, and the acknowledged sticky set is the witness of the
ALERT ACK clause, whose pending set is read cause by cause. -/
theorem captureSetAndAlertCommands : Obligations.CaptureSetAndAlertCommands := by
  unfold Obligations.CaptureSetAndAlertCommands
  intro s hframe hsample
  refine ⟨fun k o => ⟨fun hlarge => ?_, fun hsmall => ?_⟩, fun m => ?_, fun m => ?_⟩
  · exact Machine.exec_captureSet_of_refused hframe hsample (Machine.captureOptionsArg_of_large hlarge)
  · exact Machine.exec_captureSet_of_accepted hframe hsample (Machine.captureOptionsArg_of_small hsmall)
  · exact Machine.exec_alertMask_of_inFrame hframe hsample m
  · have hack := Machine.exec_alertAck_of_inFrame hframe hsample m
    refine ⟨s.alert.sticky.acknowledge m, hack, fun t ht k => ?_⟩
    rw [hack] at ht
    cases ht
    rw [Machine.State.causePending_answered, Machine.State.causePending_acknowledge]

/-- Settles O56: the line, the CAPTURE level and the bits, each by its own rule. -/
theorem alertLineFollowsTheSets : Obligations.AlertLineFollowsTheSets := by
  unfold Obligations.AlertLineFollowsTheSets
  intro s
  refine ⟨s.alertLow_iff, ?_, fun j k hbit => Machine.Cause.bit_injective hbit⟩
  simp [Machine.State.causePending_capture]

end Sys2Proof
end

section
/-! The CRC and the received frame (R163, R166, R178): the register in numbers, what the port keeps of a frame's bytes,
and the judgement of a frame of the full length. -/

namespace Sys2Proof

/-! ### The CRC register -/

theorem crcByte_eq_iterate (reg b : Byte) : crcByte reg b = crcShift^[8] (reg ^^^ b) := rfl

@[simp] theorem crc8_nil : crc8 [] = 0xFF := rfl

theorem crc8_append_singleton (bs : List Byte) (b : Byte) : crc8 (bs ++ [b]) = crcByte (crc8 bs) b :=
  List.foldl_concat ..

theorem crcShift_toNat (reg : Byte) :
    (crcShift reg).toNat = if 128 ≤ reg.toNat then (2 * reg.toNat - 256) ^^^ 7 else 2 * reg.toNat := by
  have hmsb : reg.msb = decide (128 ≤ reg.toNat) := reg.msb_eq_decide
  have hshift : (reg <<< 1).toNat = 2 * reg.toNat % 256 := by
    rw [BitVec.toNat_shiftLeft, Nat.shiftLeft_eq, Nat.mul_comm]
  rw [crcShift, hmsb]
  by_cases hdropped : 128 ≤ reg.toNat
  · have hwrap : 2 * reg.toNat % 256 = 2 * reg.toNat - 256 := by omega
    simp [hdropped, hshift, hwrap]
  · have hkept : 2 * reg.toNat % 256 = 2 * reg.toNat := by omega
    simp [hdropped, hshift, hkept]

/-! ### The bytes kept of a frame -/

theorem frameLength_of_argBytes {code : Byte} {a : Nat} (h : argBytes code = some a) :
    frameLength code = (a + 1) + 1 := by
  simp only [frameLength, h]
  omega

theorem exists_frameLength_eq_succ (code : Byte) : ∃ n, frameLength code = n + 1 := by
  cases hargs : argBytes code with
  | none => exact ⟨0, by simp only [frameLength, hargs]⟩
  | some a => exact ⟨a + 1, frameLength_of_argBytes hargs⟩

/-- A byte within the frame's full length is kept (R163). -/
theorem RxBuffer.push_of_room {r : RxBuffer} {code : Byte} {kept : List Byte} (hbytes : r.bytes = code :: kept)
    (hroom : kept.length + 1 < frameLength code) (b : Byte) : r.push b = { r with bytes := code :: kept ++ [b] } := by
  simp [RxBuffer.push, hbytes, hroom]

/-- A byte beyond the frame's full length is only noted (R163). -/
theorem RxBuffer.push_of_full {r : RxBuffer} {code : Byte} {kept : List Byte} (hbytes : r.bytes = code :: kept)
    (hfull : frameLength code ≤ kept.length + 1) (b : Byte) : r.push b = { r with more := true } := by
  simp [RxBuffer.push, hbytes, Nat.not_lt.mpr hfull]

/-- Of the bytes of a frame the port keeps the code and as many as the code requires after it, and whether there were
more (R163). -/
theorem RxBuffer.foldl_push_cons {code : Byte} {n : Nat} (hlen : frameLength code = n + 1) (rest : List Byte) :
    (code :: rest).foldl RxBuffer.push .empty =
      { bits := [], bytes := code :: rest.take n, more := decide (n < rest.length) } := by
  induction rest using List.reverseRecOn with
  | nil => simp [RxBuffer.push, RxBuffer.empty]
  | append_singleton rest b ih =>
    rw [← List.cons_append, List.foldl_concat, ih]
    by_cases hroom : rest.length < n
    · have htake : rest.take n = rest := List.take_of_length_le hroom.le
      rw [RxBuffer.push_of_room rfl (by rw [htake, hlen]; omega)]
      simp [htake, List.take_of_length_le (show (rest ++ [b]).length ≤ n by simpa using hroom)]
      omega
    · have hfull : n ≤ rest.length := Nat.not_lt.mp hroom
      rw [RxBuffer.push_of_full rfl (by simp [hlen, hfull])]
      simp [List.take_append_of_le_length hfull, Nat.lt_succ_of_le hfull]

/-! ### The judgement -/

/-- A frame that begins with 0x00 is a NOP, whatever follows (TABLE 80, line 2). -/
theorem judgeFrame_nop (filler : List Byte) : judgeFrame (0x00 :: filler) = .nop := by
  obtain ⟨n, hlen⟩ := exists_frameLength_eq_succ 0x00
  rw [judgeFrame, RxBuffer.foldl_push_cons hlen]
  rfl

/-- A frame of the full length is judged by its last byte, and then by its code (TABLE 80, lines 6 and 7). -/
theorem judgeFrame_of_full {code : Byte} {args : List Byte} (hcode : code ≠ 0x00)
    (hargs : argBytes code = some args.length) (crc : Byte) :
    judgeFrame (code :: (args ++ [crc])) =
      if crc ≠ crc8 (code :: args) then .error code .crcError
      else (decodeCommand code args).elim (.error code .unknownCmd) .command := by
  have htake : (args ++ [crc]).take (args.length + 1) = args ++ [crc] := List.take_of_length_le (by simp)
  rw [judgeFrame, RxBuffer.foldl_push_cons (frameLength_of_argBytes hargs), htake, RxBuffer.judge]
  have hlong : ¬ args.length + 1 + 1 < 2 + args.length := by omega
  dsimp only
  rw [if_neg hcode]
  cases hdecode : decodeCommand code args <;> simp [hargs, hlong, hdecode]

theorem judgeFrame_eq_crcError_iff {code : Byte} {args : List Byte} (hcode : code ≠ 0x00)
    (hargs : argBytes code = some args.length) (crc : Byte) :
    judgeFrame (code :: (args ++ [crc])) = .error code .crcError ↔ crc ≠ crc8 (code :: args) := by
  rw [judgeFrame_of_full hcode hargs]
  by_cases hcrc : crc = crc8 (code :: args)
  · cases decodeCommand code args <;> simp [hcrc]
  · simp [hcrc]

/-- Settles O34: a further byte is one more step of the fold, a frame of the full length is judged by its last byte, and
a frame's first byte is always kept. -/
theorem crcIsFormedAndApplied : Obligations.CrcIsFormedAndApplied := by
  unfold Obligations.CrcIsFormedAndApplied
  refine ⟨crc8_nil, fun bs b => ?_, crcShift_toNat, fun code args crc hcode hargs => ?_, fun h => ?_, judgeFrame_nop⟩
  · rw [crc8_append_singleton, crcByte_eq_iterate]
  · exact judgeFrame_eq_crcError_iff hcode hargs crc
  · exact ⟨_, rfl, rfl⟩

end Sys2Proof
end

section
/-! The management commands seen at once: the lengths of the response data (TABLE 88), and the one inversion that says
what the owner of a command can do to the part and answer (R170). -/

namespace Sys2Proof.Machine

open Sys2Proof.Laws (leBytes_length flatMap_length)

/-! ### Lengths of the response data -/

@[simp] theorem balanceBytes_length (b : Int) : (balanceBytes b).length = 4 := leBytes_length ..

@[simp] theorem statusData_length (s : State) : (statusData s).length = 20 := by
  unfold statusData
  cases s.port <;> simp

@[simp] theorem regulationData_length (r : Regulation) : (regulationData r).length = 10 := by
  simp [regulationData]

@[simp] theorem streamData_length (s : State) (i : StreamIx) : (streamData s i).length = 48 := by
  simp [streamData]

@[simp] theorem channelsData_length (c : Vector Channel 4) : (channelsData c).length = 16 := by
  simp [channelsData, flatMap_length _ 4]

@[simp] theorem windowData_length (w : WindowGen) : (windowData w).length = 50 := by
  simp [windowData]

@[simp] theorem slotData_length (s : State) (i : SlotIx) : (slotData s i).length = 30 := by
  unfold slotData
  dsimp only
  split <;> simp

@[simp] theorem valuesData_length (v : List (BitVec 40)) : (valuesData v).length = 5 * v.length :=
  flatMap_length _ 5 _ fun _ => leBytes_length ..

@[simp] theorem counterData_length (u : AccountingUnit) (i : CounterIx) : (counterData u i).length = 15 := by
  simp [counterData]

@[simp] theorem countersData_length (u : AccountingUnit) : (countersData u).length = 43 := by
  simp [countersData]

@[simp] theorem binsData_length (b : Vector Bin 8) : (binsData b).length = 33 := by
  simp [binsData, flatMap_length _ 4]

@[simp] theorem histogramConfigData_length (c : HistogramConfig) : (histogramConfigData c).length = 24 := by
  simp [histogramConfigData, flatMap_length _ 3]

theorem worstData_length (w : Option WorstRecord) : (worstData w).length = if w = none then 1 else 21 := by
  cases w <;> simp [worstData]

@[simp] theorem headerData_length (r : CaptureRecord) : (headerData r).length = 21 := by
  simp [headerData]

theorem captureData_length (r : CaptureRecord) (p : Fin 4) :
    (captureData r p).length =
      match p with
      | 0 => 21
      | 1 => 40
      | 2 => if r.histogram = none then 0 else 33
      | 3 => if r.balances = none then 0 else 64 := by
  match p with
  | 0 => exact headerData_length r
  | 1 => simp [captureData]
  | 2 => cases h : r.histogram <;> simp [captureData, h]
  | 3 => cases h : r.balances <;> simp [captureData, h, flatMap_length _ 4]

/-- No part of a capture record has more than 64 bytes. -/
theorem captureData_length_le (r : CaptureRecord) (p : Fin 4) : (captureData r p).length ≤ 64 := by
  rw [captureData_length]
  match p with
  | 0 => simp
  | 1 => simp
  | 2 => dsimp only; split <;> decide
  | 3 => dsimp only; split <;> decide

/-! ### Arguments -/

theorem indexArg_of_eq {n : Nat} {b : Byte} {i : Fin n} (h : b.toNat = i.val) : indexArg n b = some i := by
  rw [indexArg, dif_pos (h ▸ i.isLt)]
  simp [h]

theorem indexArg_of_large {n : Nat} {b : Byte} (h : n ≤ b.toNat) : indexArg n b = none :=
  dif_neg (Nat.not_lt.mpr h)

theorem indexArg_eq_some_iff {n : Nat} {b : Byte} {i : Fin n} : indexArg n b = some i ↔ b.toNat = i.val := by
  unfold indexArg
  split <;> simp [Fin.ext_iff]
  omega

/-- Match fields that STREAM WRITE can put in an entry (TABLE 18): those it held, for index 0, or fields in order. -/
def MatchFields.WrittenOver (new old : MatchFields) : Prop :=
  new = old ∨
    (new.sourceLow ≤ new.sourceHigh ∧ new.pageBase ≤ new.pageLimit ∧ (new.kinds.read = true ∨ new.kinds.write = true))

theorem kindsArg_member {b : Byte} {k : Kinds} (h : kindsArg b = some k) : k.read = true ∨ k.write = true := by
  unfold kindsArg at h
  split at h <;> cases h <;> simp

theorem matchArgs_ordered {a : StreamWriteArgs} {f : MatchFields} (h : matchArgs a = some f) :
    f.sourceLow ≤ f.sourceHigh ∧ f.pageBase ≤ f.pageLimit ∧ (f.kinds.read = true ∨ f.kinds.write = true) := by
  unfold matchArgs at h
  split at h
  case isFalse => cases h
  case isTrue hr =>
    obtain ⟨k, hk, rfl⟩ := Option.map_eq_some_iff.mp h
    refine ⟨?_, ?_, kindsArg_member hk⟩ <;> simp only [BitVec.le_def, BitVec.toNat_ofNat] <;> omega

theorem matchFor_writtenOver {e : StreamEntry} {i : StreamIx} {a : StreamWriteArgs} {f : MatchFields}
    (h : matchFor e i a = some f) : f.WrittenOver e.fields := by
  unfold matchFor at h
  split at h
  · exact .inl (Option.some.inj h).symm
  · exact .inr (matchArgs_ordered h)

theorem treatmentArgs_holdLimit {a : StreamWriteArgs} {t : Fin 4 × Nat × Policy} (h : treatmentArgs a = some t) :
    1 ≤ t.2.1 ∧ t.2.1 ≤ 32 := by
  unfold treatmentArgs at h
  split at h
  · split at h
    · cases h; assumption
    · cases h
  · cases h

theorem regulationArgs_wf {a : StreamWriteArgs} {r : Regulation} (h : regulationArgs a = some r) : r.wf := by
  unfold regulationArgs at h
  split at h
  · split at h
    · cases h; assumption
    · cases h
  · cases h

theorem counterArgs_wf {a : CounterSetArgs} {c : CounterConfig} (h : counterArgs a = some c) : c.wf := by
  unfold counterArgs at h
  split at h
  · split at h
    · cases h
    · next hrefused =>
      cases h
      simp only [Bool.or_eq_true, Bool.and_eq_true, Bool.not_eq_true', beq_iff_eq, not_or, not_and] at hrefused
      refine ⟨Nat.le_of_lt_succ a.threshold.isLt, fun hedge => ?_, hrefused.2⟩
      exact Bool.eq_true_of_not_eq_false (hrefused.1 hedge)
  · cases h

theorem windowSettings_wf {a : WindowSetArgs} (h : 16 ≤ a.length.toNat) : (windowSettings a).wf := by
  refine ⟨h, Nat.le_of_lt_succ a.length.isLt, fun c => ?_⟩
  simp only [windowSettings, Fin.getElem_fin, mapAll_getElem]
  exact ⟨Nat.le_of_lt_succ a.channels[c.val].offset.isLt, Nat.le_of_lt_succ a.channels[c.val].width.isLt⟩

/-! ### What the owner of a command can do -/

/-- What TICK SET, WINDOW SET and WINDOW STOP can make of the window generator (R34, R43, R45). -/
inductive WindowGen.Set (w : WindowGen) : WindowGen → Prop
  | prescaler (p : Nat) (hrange : 1 ≤ p ∧ p ≤ 1023) : w.Set { w with prescaler := p }
  | staged (set : WindowSettings) (hwf : set.wf) : w.Set { w with staged := set }
  | stop : w.Set w.stop

/-- Everything that the owner of a management command can answer, with what it makes of the part (R170). -/
inductive Served (t : State) : Reply → Prop
  | turnedAway (st : Status) (hstatus : st ∈ [Status.busy, .badArg, .badIndex, .state, .empty]) :
    Served t (.turnedAway t st)
  | shown (d : List Byte) (hlen : d.length ≤ 64) : Served t (.ok t d)
  | softReset (hlist : t.entries = []) (hslots : ∀ i : SlotIx, t.slots[i].use = .free) : Served t (.ok t.softReset [])
  | window (w : WindowGen) (hset : t.window.Set w) : Served t (.ok (t.withWindow w) [])
  | windowStart : Served t (.ok t.windowStart [])
  | timeout (v : Nat) (hrange : v ≤ 1048575) : Served t (.ok { t with timeout := v } [])
  | reclaim (v : Vector Slot 64) (d : List Byte) (hlen : d.length ≤ 64)
    (hslots : ∀ i : SlotIx, v[i] = t.slots[i] ∨ (t.slots[i].inStage .orphaned = true ∧ v[i] = t.slots[i].freed)) :
    Served t (.ok { t with slots := v } d)
  | streamWrite (i : StreamIx) (fields : MatchFields) (treatment : Fin 4 × Nat × Policy) (regulation : Regulation)
    (hfields : fields.WrittenOver t.streams[i].fields) (hlimit : 1 ≤ treatment.2.1 ∧ treatment.2.1 ≤ 32)
    (hregulation : regulation.wf) :
    Served t (.ok (t.setStream i (t.streams[i].written fields treatment regulation)).retry [])
  | streamDelete (i : StreamIx) (hindex : i ≠ 0) (hcount : t.waitingCount i = 0) :
    Served t (.ok (t.setStream i t.streams[i].deleted).retry [])
  | paused (i : StreamIx) (b : Bool) : Served t (.ok (t.setStream i { t.streams[i] with paused := b }) [])
  | purge (i : StreamIx) (d : List Byte) (hlen : d.length ≤ 64) : Served t (.ok (t.purge i).retry d)
  | counters (v : Vector Counter 8)
    (hconfig : ∀ i : CounterIx, v[i].config = t.accounting.counters[i].config ∨ v[i].config.wf) :
    Served t (.ok (t.withAccounting { t.accounting with counters := v }) [])
  | accountingState (a : AccountingState) : Served t (.ok (t.withAccounting { t.accounting with state := a }) [])
  | histogram (c : HistogramConfig)
    (hconfig : c = t.accounting.histogram.config ∨ ascending c.boundaries = true) :
    Served t (.ok (t.withHistogram { config := c, bins := clearBins, worst := none }) [])
  | captureSet (o : CaptureOptions) (k : Nat) (hperiod : k ≤ 255) :
    Served t (.ok (t.withCapture { t.capture with options := o, period := k, periodicCount := 0 }) [])
  | captureNow (d : List Byte) (hlen : d.length ≤ 64) :
    Served t (.ok (t.captureAttempt .command t.windowNumber t.balances) d)
  | captureRelease (r : CaptureRecord) (rest : List CaptureRecord) (hrecords : t.capture.records = r :: rest)
    (d : List Byte) (hlen : d.length ≤ 64) : Served t (.ok (t.withCapture { t.capture with records := rest }) d)
  | acknowledged (m : Byte) : Served t (.ok (t.withSticky (StickyCauses.acknowledge m)) [])
  | masked (m : Byte) : Served t (.ok { t with alert := { t.alert with enabled := m } } [])

/-- The command is one of a code, whose owner answers as `Served` says. -/
def HasOwner (c : Instr) (code : Byte) : Prop :=
  ∃ owner : State → Reply, (∀ s, exec c s = .next (s.runCommand code owner)) ∧ ∀ t, Served t (owner t)

theorem hasOwner_readStatus : HasOwner .readStatus 0x01 :=
  ⟨_, fun _ => rfl, fun t => .shown _ (by simp)⟩

theorem hasOwner_softReset : HasOwner .softReset 0x02 := by
  refine ⟨_, fun _ => rfl, fun t => ?_⟩
  split
  · next h =>
    simp only [Bool.and_eq_true, List.isEmpty_iff, beq_iff_eq] at h
    exact .softReset h.1 (State.slotsNotFree_eq_zero_iff.mp h.2)
  · exact .turnedAway _ (by simp)

theorem hasOwner_tickSet (p : BitVec 16) : HasOwner (.tickSet p) 0x03 := by
  refine ⟨_, fun _ => rfl, fun t => ?_⟩
  split
  · next h => exact .window _ (.prescaler _ h)
  · exact .turnedAway _ (by simp)

theorem hasOwner_streamWrite (a : StreamWriteArgs) : HasOwner (.streamWrite a) 0x10 := by
  refine ⟨_, fun _ => rfl, fun t => ?_⟩
  split
  · exact .turnedAway _ (by simp)
  · split
    · next fields treatment regulation hfields htreatment hregulation =>
      exact .streamWrite _ _ _ _ (matchFor_writtenOver hfields) (treatmentArgs_holdLimit htreatment)
        (regulationArgs_wf hregulation)
    · exact .turnedAway _ (by simp)

theorem hasOwner_streamRead (b : Byte) : HasOwner (.streamRead b) 0x11 := by
  refine ⟨_, fun _ => rfl, fun t => ?_⟩
  split
  · exact .turnedAway _ (by simp)
  · exact .shown _ (by simp)

theorem hasOwner_streamDelete (b : Byte) : HasOwner (.streamDelete b) 0x12 := by
  refine ⟨_, fun _ => rfl, fun t => ?_⟩
  split
  · exact .turnedAway _ (by simp)
  · split
    · exact .turnedAway _ (by simp)
    · split
      · exact .turnedAway _ (by simp)
      · next hindex hcount => exact .streamDelete _ hindex (by omega)

theorem hasOwner_streamPause (b : Byte) : HasOwner (.streamPause b) 0x13 := by
  refine ⟨_, fun _ => rfl, fun t => ?_⟩
  split
  · exact .turnedAway _ (by simp)
  · exact .paused _ _

theorem hasOwner_streamResume (b : Byte) : HasOwner (.streamResume b) 0x14 := by
  refine ⟨_, fun _ => rfl, fun t => ?_⟩
  split
  · exact .turnedAway _ (by simp)
  · exact .paused _ _

theorem hasOwner_streamPurge (b : Byte) : HasOwner (.streamPurge b) 0x15 := by
  refine ⟨_, fun _ => rfl, fun t => ?_⟩
  split
  · exact .turnedAway _ (by simp)
  · split
    · exact .shown _ (by simp)
    · exact .purge _ _ (by simp)

theorem hasOwner_windowSet (a : WindowSetArgs) : HasOwner (.windowSet a) 0x20 := by
  refine ⟨_, fun _ => rfl, fun t => ?_⟩
  split
  · next h => exact .window _ (.staged _ (windowSettings_wf h))
  · exact .turnedAway _ (by simp)

theorem hasOwner_timeoutSet (v : BitVec 24) : HasOwner (.timeoutSet v) 0x30 := by
  refine ⟨_, fun _ => rfl, fun t => ?_⟩
  split
  · next h => exact .timeout _ h
  · exact .turnedAway _ (by simp)

theorem hasOwner_slotRead (b : Byte) : HasOwner (.slotRead b) 0x31 := by
  refine ⟨_, fun _ => rfl, fun t => ?_⟩
  split
  · exact .turnedAway _ (by simp)
  · exact .shown _ (by simp)

theorem Slot.reclaimed_cases (t : Slot) :
    t.reclaimed = t ∨ (t.inStage .orphaned = true ∧ t.reclaimed = t.freed) := by
  unfold Slot.reclaimed
  split
  · next h => exact .inr ⟨h, rfl⟩
  · exact .inl rfl

theorem hasOwner_reclaim (b : Byte) : HasOwner (.reclaim b) 0x32 := by
  refine ⟨_, fun _ => rfl, fun t => ?_⟩
  split
  · refine .reclaim _ _ (by simp) fun i => ?_
    simpa using t.slots[i].reclaimed_cases
  · split
    · exact .turnedAway _ (by simp)
    · split
      · next i _ horphaned =>
        refine .reclaim _ _ (by simp) fun j => ?_
        by_cases hij : i = j
        · subst hij
          exact .inr ⟨horphaned, by simp⟩
        · exact .inl (by simp [Fin.val_ne_of_ne hij])
      · exact .turnedAway _ (by simp)

theorem hasOwner_counterSet (a : CounterSetArgs) : HasOwner (.counterSet a) 0x40 := by
  refine ⟨_, fun _ => rfl, fun t => ?_⟩
  split
  · exact .turnedAway _ (by simp)
  · split
    · exact .turnedAway _ (by simp)
    · next i _ _ c hc =>
      refine .counters _ fun j => ?_
      by_cases hij : i = j
      · subst hij
        exact .inr (by simpa using counterArgs_wf hc)
      · exact .inl (by simp [Fin.val_ne_of_ne hij])

theorem hasOwner_counterWrite (b : Byte) (v : BitVec 40) : HasOwner (.counterWrite b v) 0x41 := by
  refine ⟨_, fun _ => rfl, fun t => ?_⟩
  split
  · exact .turnedAway _ (by simp)
  · next i _ =>
    refine .counters _ fun j => .inl ?_
    by_cases hij : i = j
    · subst hij
      simp
    · simp [Fin.val_ne_of_ne hij]

theorem hasOwner_counterRead (b : Byte) : HasOwner (.counterRead b) 0x42 := by
  refine ⟨_, fun _ => rfl, fun t => ?_⟩
  split
  · exact .shown _ (by simp)
  · split
    · exact .turnedAway _ (by simp)
    · exact .shown _ (by simp)

theorem hasOwner_overflowClear (m : Byte) : HasOwner (.overflowClear m) 0x45 := by
  refine ⟨_, fun _ => rfl, fun t => .counters _ fun i => .inl ?_⟩
  simp only [clearFlags, Fin.getElem_fin, Vector.getElem_ofFn]
  split <;> rfl

theorem hasOwner_histogramSet (a : HistogramSetArgs) : HasOwner (.histogramSet a) 0x50 := by
  refine ⟨_, fun _ => rfl, fun t => ?_⟩
  split
  · exact .turnedAway _ (by simp)
  · next c hc =>
    obtain ⟨⟨-, hascending⟩, -, -, -, hboundaries, -⟩ := histogramArgs_eq_some_iff.mp hc
    exact .histogram c (.inr (hboundaries ▸ hascending))

theorem hasOwner_histogramRead (b : Byte) : HasOwner (.histogramRead b) 0x51 := by
  refine ⟨_, fun _ => rfl, fun t => ?_⟩
  split
  · exact .shown _ (by simp)
  · exact .shown _ (by simp)
  · exact .shown _ (by rw [worstData_length]; split <;> decide)
  · exact .turnedAway _ (by simp)

theorem hasOwner_captureSet (k o : Byte) : HasOwner (.captureSet k o) 0x60 := by
  refine ⟨_, fun _ => rfl, fun t => ?_⟩
  split
  · exact .turnedAway _ (by simp)
  · exact .captureSet _ _ (Nat.le_of_lt_succ k.isLt)

theorem hasOwner_captureRead (b : Byte) : HasOwner (.captureRead b) 0x62 := by
  refine ⟨_, fun _ => rfl, fun t => ?_⟩
  split
  · exact .turnedAway _ (by simp)
  · split
    · exact .turnedAway _ (by simp)
    · exact .shown _ (captureData_length_le _ _)

theorem hasOwner_captureRelease : HasOwner .captureRelease 0x63 := by
  refine ⟨_, fun _ => rfl, fun t => ?_⟩
  split
  · exact .turnedAway _ (by simp)
  · next r rest hrecords => exact .captureRelease r rest hrecords _ (by simp)

/-- Every command of TABLE 86 is handed to its owner under its code, and the owner answers as `Served` says. -/
theorem hasOwner_of_commandBytes {c : Instr} {code : Byte} {args : List Byte}
    (h : commandBytes c = some (code :: args)) : HasOwner c code := by
  cases c <;> cases h
  case readStatus => exact hasOwner_readStatus
  case softReset => exact hasOwner_softReset
  case tickSet p => exact hasOwner_tickSet p
  case streamWrite a => exact hasOwner_streamWrite a
  case streamRead b => exact hasOwner_streamRead b
  case streamDelete b => exact hasOwner_streamDelete b
  case streamPause b => exact hasOwner_streamPause b
  case streamResume b => exact hasOwner_streamResume b
  case streamPurge b => exact hasOwner_streamPurge b
  case windowSet a => exact hasOwner_windowSet a
  case windowStart => exact ⟨_, fun _ => rfl, fun _ => .windowStart⟩
  case windowStop => exact ⟨_, fun _ => rfl, fun _ => .window _ .stop⟩
  case windowRead => exact ⟨_, fun _ => rfl, fun _ => .shown _ (by simp)⟩
  case timeoutSet v => exact hasOwner_timeoutSet v
  case slotRead b => exact hasOwner_slotRead b
  case reclaim b => exact hasOwner_reclaim b
  case counterSet a => exact hasOwner_counterSet a
  case counterWrite b v => exact hasOwner_counterWrite b v
  case counterRead b => exact hasOwner_counterRead b
  case freeze => exact ⟨_, fun _ => rfl, fun _ => .accountingState _⟩
  case unfreeze => exact ⟨_, fun _ => rfl, fun _ => .accountingState _⟩
  case overflowClear m => exact hasOwner_overflowClear m
  case histogramSet a => exact hasOwner_histogramSet a
  case histogramRead b => exact hasOwner_histogramRead b
  case histogramClear => exact ⟨_, fun _ => rfl, fun _ => .histogram _ (.inl rfl)⟩
  case captureSet k o => exact hasOwner_captureSet k o
  case captureNow => exact ⟨_, fun _ => rfl, fun _ => .captureNow _ (by simp)⟩
  case captureRead b => exact hasOwner_captureRead b
  case captureRelease => exact hasOwner_captureRelease
  case alertRead => exact ⟨_, fun _ => rfl, fun _ => .shown _ (by simp)⟩
  case alertAck m => exact ⟨_, fun _ => rfl, fun _ => .acknowledged m⟩
  case alertMask m => exact ⟨_, fun _ => rfl, fun _ => .masked m⟩

end Sys2Proof.Machine
end

section
/-! What the shared operations leave unchanged, the queue and the records of sent messages under every command (R1),
and the answer to every command frame (R167, R170). -/

namespace Sys2Proof.Machine

variable (s : State)

/-! ### The admission attempt and the retry -/

/-- An attempt that stalls changes the port and the books alone (R75). -/
theorem State.stall_eq (r : Request) (i : StreamIx) :
    s.stall r i = ({ s with port := .stalled r i } : State).withBooks (s.stall r i).books := by
  unfold State.stall
  split
  · rfl
  · rw [State.emit_eq]; rfl

/-- An attempt changes the port, the list, the references and the books alone (R71). -/
theorem State.attempt_eq (r : Request) :
    s.attempt r =
      ({ s with
          port := (s.attempt r).port
          entries := (s.attempt r).entries
          nextId := (s.attempt r).nextId
          replyOrder := (s.attempt r).replyOrder } : State).withBooks (s.attempt r).books := by
  obtain ⟨i, -, h⟩ | ⟨k, i, -, h⟩ | ⟨i, -, h⟩ := s.attempt_cases r
  · rw [h, State.stall_eq]; rfl
  · rw [h, State.admitOwed, State.emit_eq]; rfl
  · rw [h, State.admitWaiting, State.emit_eq]; rfl

theorem State.retry_eq :
    s.retry =
      ({ s with
          port := s.retry.port
          entries := s.retry.entries
          nextId := s.retry.nextId
          replyOrder := s.retry.replyOrder } : State).withBooks s.retry.books := by
  obtain ⟨r, i, -, h⟩ | ⟨-, h⟩ := s.retry_cases
  · rw [h]; exact s.attempt_eq r
  · rw [h]; rfl

@[simp] theorem State.retry_streams : s.retry.streams = s.streams := by rw [State.retry_eq]; rfl
@[simp] theorem State.retry_timeout : s.retry.timeout = s.timeout := by rw [State.retry_eq]; rfl
@[simp] theorem State.retry_candidate : s.retry.candidate = s.candidate := by rw [State.retry_eq]; rfl
@[simp] theorem State.retry_lastServed : s.retry.lastServed = s.lastServed := by rw [State.retry_eq]; rfl
@[simp] theorem State.retry_window : s.retry.window = s.window := by rw [State.retry_eq]; rfl
@[simp] theorem State.retry_mgmt : s.retry.mgmt = s.mgmt := by rw [State.retry_eq]; rfl
@[simp] theorem State.retry_rst : s.retry.rst = s.rst := by rw [State.retry_eq]; rfl
@[simp] theorem State.retry_nlrst : s.retry.nlrst = s.nlrst := by rw [State.retry_eq]; rfl
@[simp] theorem State.retry_northSent : s.retry.northSent = s.northSent := by rw [State.retry_eq]; rfl
@[simp] theorem State.retry_pending : s.retry.pending = s.pending := by rw [State.retry_eq]; rfl
@[simp] theorem State.attempt_streams (r : Request) : (s.attempt r).streams = s.streams := by rw [State.attempt_eq]; rfl
@[simp] theorem State.attempt_timeout (r : Request) : (s.attempt r).timeout = s.timeout := by rw [State.attempt_eq]; rfl
@[simp] theorem State.attempt_candidate (r : Request) : (s.attempt r).candidate = s.candidate := by
  rw [State.attempt_eq]; rfl
@[simp] theorem State.attempt_window (r : Request) : (s.attempt r).window = s.window := by rw [State.attempt_eq]; rfl
@[simp] theorem State.attempt_mgmt (r : Request) : (s.attempt r).mgmt = s.mgmt := by rw [State.attempt_eq]; rfl
@[simp] theorem State.attempt_rst (r : Request) : (s.attempt r).rst = s.rst := by rw [State.attempt_eq]; rfl
@[simp] theorem State.attempt_nlrst (r : Request) : (s.attempt r).nlrst = s.nlrst := by rw [State.attempt_eq]; rfl
@[simp] theorem State.attempt_northSent (r : Request) : (s.attempt r).northSent = s.northSent := by
  rw [State.attempt_eq]; rfl
@[simp] theorem State.attempt_pending (r : Request) : (s.attempt r).pending = s.pending := by rw [State.attempt_eq]; rfl

/-! ### The window start and the redrop -/

@[simp] theorem State.windowStart_port : s.windowStart.port = s.port := by rw [State.windowStart_eq]; rfl
@[simp] theorem State.windowStart_streams : s.windowStart.streams = mapAll StreamEntry.windowStart s.streams := by
  rw [State.windowStart_eq]; rfl
@[simp] theorem State.windowStart_entries : s.windowStart.entries = s.entries := by rw [State.windowStart_eq]; rfl
@[simp] theorem State.windowStart_nextId : s.windowStart.nextId = s.nextId := by rw [State.windowStart_eq]; rfl
@[simp] theorem State.windowStart_slots : s.windowStart.slots = s.slots := by rw [State.windowStart_eq]; rfl
@[simp] theorem State.windowStart_timeout : s.windowStart.timeout = s.timeout := by rw [State.windowStart_eq]; rfl
@[simp] theorem State.windowStart_candidate : s.windowStart.candidate = s.candidate := by rw [State.windowStart_eq]; rfl
@[simp] theorem State.windowStart_replyOrder : s.windowStart.replyOrder = s.replyOrder := by
  rw [State.windowStart_eq]; rfl
@[simp] theorem State.windowStart_window : s.windowStart.window = { s.window.start with running := true } := by
  rw [State.windowStart_eq]; rfl
@[simp] theorem State.windowStart_mgmt : s.windowStart.mgmt = s.mgmt := by rw [State.windowStart_eq]; rfl
@[simp] theorem State.windowStart_rst : s.windowStart.rst = s.rst := by rw [State.windowStart_eq]; rfl
@[simp] theorem State.windowStart_nlrst : s.windowStart.nlrst = s.nlrst := by rw [State.windowStart_eq]; rfl
@[simp] theorem State.windowStart_northSent : s.windowStart.northSent = s.northSent := by rw [State.windowStart_eq]; rfl
@[simp] theorem State.windowStart_southSent : s.windowStart.southSent = s.southSent := by rw [State.windowStart_eq]; rfl
@[simp] theorem State.windowStart_pending : s.windowStart.pending = s.pending := by rw [State.windowStart_eq]; rfl

/-- Everything that taking a due window start can do (R37). -/
theorem State.takeDueStart_cases :
    (s.window.startDue = true ∧ s.window.running = true ∧
        s.takeDueStart = ({ s with window := { s.window with startDue := false } } : State).windowStart) ∨
      (¬ (s.window.startDue = true ∧ s.window.running = true) ∧ s.takeDueStart = s) := by
  unfold State.takeDueStart
  split
  · next h =>
    simp only [Bool.and_eq_true] at h
    exact .inl ⟨h.1, h.2, rfl⟩
  · next h => exact .inr ⟨by simpa using h, rfl⟩

/-- Taking a candidate again changes the candidate and the slots alone (R97, R103). -/
theorem State.redropCandidate_eq :
    s.redropCandidate.1 =
      { s with candidate := s.redropCandidate.1.candidate, slots := s.redropCandidate.1.slots } := by
  obtain h | ⟨c, q, -, -, h⟩ := s.redropCandidate_cases <;> rw [h]

/-! ### Expiry -/

@[simp] theorem State.expire_port : s.expire.port = s.port := by unfold State.expire; rfl
@[simp] theorem State.expire_streams : s.expire.streams = s.streams := by unfold State.expire; rfl
@[simp] theorem State.expire_entries : s.expire.entries = s.entries := by unfold State.expire; rfl
@[simp] theorem State.expire_nextId : s.expire.nextId = s.nextId := by unfold State.expire; rfl
@[simp] theorem State.expire_timeout : s.expire.timeout = s.timeout := by unfold State.expire; rfl
@[simp] theorem State.expire_candidate : s.expire.candidate = s.candidate := by unfold State.expire; rfl
@[simp] theorem State.expire_lastServed : s.expire.lastServed = s.lastServed := by unfold State.expire; rfl
@[simp] theorem State.expire_window : s.expire.window = s.window := by unfold State.expire; rfl
@[simp] theorem State.expire_accounting : s.expire.accounting = s.accounting := by unfold State.expire; rfl
@[simp] theorem State.expire_capture : s.expire.capture = s.capture := by unfold State.expire; rfl
@[simp] theorem State.expire_alert : s.expire.alert = s.alert := by unfold State.expire; rfl
@[simp] theorem State.expire_mgmt : s.expire.mgmt = s.mgmt := by unfold State.expire; rfl
@[simp] theorem State.expire_rst : s.expire.rst = s.rst := by unfold State.expire; rfl
@[simp] theorem State.expire_nlrst : s.expire.nlrst = s.nlrst := by unfold State.expire; rfl
@[simp] theorem State.expire_northSent : s.expire.northSent = s.northSent := by unfold State.expire; rfl
@[simp] theorem State.expire_southSent : s.expire.southSent = s.southSent := by unfold State.expire; rfl
@[simp] theorem State.expire_freeDrawn : s.expire.freeDrawn = s.freeDrawn := by unfold State.expire; rfl
@[simp] theorem State.expire_pending : s.expire.pending = s.pending := by unfold State.expire; rfl
@[simp] theorem State.expire_slots : s.expire.slots = mapAll (Slot.expired s.window.partTime) s.slots := rfl
@[simp] theorem State.expire_replyOrder : s.expire.replyOrder = s.replyOrder ++ s.expiring.map Ref.slot := rfl

/-! ### The queue and the records of sent messages -/

/-- What no command calls back (R1): the queue is as it was, and the messages sent begin with those sent before. -/
def State.Extends (t s : State) : Prop :=
  t.pending = s.pending ∧ s.northSent <+: t.northSent ∧ s.southSent <+: t.southSent

variable {s}

theorem State.Extends.of_eq {t : State} (hpending : t.pending = s.pending) (hnorth : t.northSent = s.northSent)
    (hsouth : t.southSent = s.southSent) : t.Extends s := by
  refine ⟨hpending, ?_, ?_⟩
  · rw [hnorth]
  · rw [hsouth]

theorem State.Extends.refl : s.Extends s := .of_eq rfl rfl rfl

theorem State.Extends.trans {t u : State} (htu : t.Extends u) (hus : u.Extends s) : t.Extends s := by
  obtain ⟨htp, htn, hts⟩ := htu
  obtain ⟨hup, hun, hus⟩ := hus
  exact ⟨htp.trans hup, hun.trans htn, hus.trans hts⟩

theorem State.retry_extends : s.retry.Extends s := .of_eq (by simp) (by simp) (by simp)

theorem State.emit_extends (ns : List Notice) : (s.emit ns).Extends s := .of_eq (by simp) (by simp) (by simp)

theorem State.northTake_extends (cls : ReplyClass) (r : NorthResponse) : (s.northTake cls r).Extends s :=
  ⟨rfl, List.prefix_append .., List.prefix_rfl⟩

theorem State.withSticky_extends (f : StickyCauses → StickyCauses) : (s.withSticky f).Extends s := .of_eq rfl rfl rfl

theorem State.sample_extends (r : SampleRecord) : (s.sample r).Extends s := .of_eq rfl rfl rfl

theorem State.withWindow_extends (s : State) (w : WindowGen) : (s.withWindow w).Extends s := .of_eq rfl rfl rfl

theorem State.settleSample_extends : s.settleSample.Extends s := .of_eq rfl rfl rfl

theorem State.windowStart_extends : s.windowStart.Extends s := .of_eq (by simp) (by simp) (by simp)

theorem State.takeDueStart_extends : s.takeDueStart.Extends s := by
  obtain ⟨-, -, h⟩ | ⟨-, h⟩ := s.takeDueStart_cases <;> rw [h]
  · exact State.windowStart_extends.trans (.of_eq rfl rfl rfl)
  · exact .refl

theorem State.redropCandidate_extends : s.redropCandidate.1.Extends s := by
  rw [State.redropCandidate_eq]
  exact .of_eq rfl rfl rfl

theorem State.issueTo_extends (e : PendingEntry) (i : SlotIx) : (s.issueTo e i).Extends s :=
  (State.retry_extends.trans (State.emit_extends _)).trans ⟨rfl, List.prefix_rfl, List.prefix_append ..⟩

theorem State.intake_extends (r : SouthResponse) : (s.intake r).Extends s := by
  have hstray : s.strayDrop.Extends s := (State.emit_extends _).trans (.of_eq rfl rfl rfl)
  unfold State.intake
  dsimp only
  split
  · exact hstray
  · split
    · exact hstray
    · split
      · exact (State.emit_extends _).trans (.of_eq rfl rfl rfl)
      · exact .of_eq rfl rfl rfl

theorem State.handSample_extends (r : SampleRecord) : (s.handSample r).Extends s := by
  obtain ⟨-, h⟩ | ⟨-, h⟩ := s.handSample_cases r <;> rw [h] <;> exact .of_eq rfl rfl rfl

theorem State.forward_extends (c : Candidate) (g : SlotStage) (q : SlotRequest) : (s.forward c g q).Extends s :=
  (State.handSample_extends _).trans <| (State.emit_extends _).trans <|
    (State.withSticky_extends _).trans <| (State.northTake_extends ..).trans (.of_eq rfl rfl rfl)

theorem State.timeOut_extends (i : SlotIx) (q : SlotRequest) : (s.timeOut i q).Extends s := by
  have htake : ∀ (u : State) cls r f, u.Extends s → ((u.northTake cls r).withSticky f).Extends s :=
    fun u cls r f hu => (State.withSticky_extends f).trans ((State.northTake_extends cls r).trans hu)
  unfold State.timeOut
  dsimp only
  split
  · exact (State.emit_extends _).trans (State.redropCandidate_extends.trans (htake _ _ _ _ (.of_eq rfl rfl rfl)))
  · exact (State.emit_extends _).trans (htake _ _ _ _ (.of_eq rfl rfl rfl))

theorem State.sendOwed_extends (e : PendingEntry) (k : ReplyKind) : (s.sendOwed e k).Extends s :=
  State.retry_extends.trans ((State.northTake_extends ..).trans (.of_eq rfl rfl rfl))

theorem State.linkReset_extends : s.linkReset.Extends s :=
  (State.emit_extends _).trans (State.redropCandidate_extends.trans (.of_eq rfl rfl rfl))

theorem State.cutFrame_extends : s.cutFrame.Extends s := by
  unfold State.cutFrame
  split <;> exact .of_eq rfl rfl rfl

/-- The owner of a command keeps the queue, the records of sent messages, the management port and RST_N. -/
theorem Served.frame {r : Reply} (h : Served s r) :
    r.state.Extends s ∧ r.state.mgmt = s.mgmt ∧ r.state.rst = s.rst := by
  cases h
  case windowStart => exact ⟨State.windowStart_extends, by simp, by simp⟩
  case streamWrite => exact ⟨State.retry_extends.trans (.of_eq rfl rfl rfl), by simp, by simp⟩
  case streamDelete => exact ⟨State.retry_extends.trans (.of_eq rfl rfl rfl), by simp, by simp⟩
  case purge =>
    exact ⟨State.retry_extends.trans ((State.emit_extends _).trans (.of_eq rfl rfl rfl)), by simp [State.purge],
      by simp [State.purge]⟩
  all_goals exact ⟨.of_eq rfl rfl rfl, rfl, rfl⟩

theorem State.serve_extends {code : Byte} {owner : State → Reply} (h : ∀ t, Served t (owner t)) :
    (s.serve code owner).Extends s :=
  (State.Extends.of_eq rfl rfl rfl).trans (h s).frame.1

/-- Everything that the end of a command's frame can do: the frame was not received, or the owner serves the command
of a state in which no sample is due, and a sample may follow (R147, R163). -/
theorem State.runCommand_cases (code : Byte) (owner : State → Reply) :
    (s.inFrame = false ∧ s.runCommand code owner = s.deselect) ∨
      (s.inFrame = true ∧ s.runCommand code owner = s.settleSample.serve code owner) ∨
      ∃ r, s.inFrame = true ∧ s.accounting.sampleDue = some r ∧
        (s.runCommand code owner = (s.drawOrder.serve code owner).sample r ∨
          s.runCommand code owner = (s.drawOrder.sample r).serve code owner) := by
  unfold State.runCommand
  cases s.inFrame with
  | false => exact .inl ⟨rfl, rfl⟩
  | true =>
    cases s.accounting.sampleDue with
    | none => exact .inr (.inl ⟨rfl, rfl⟩)
    | some r =>
      cases fallsBetween code with
      | false => exact .inr (.inl ⟨rfl, rfl⟩)
      | true =>
        refine .inr (.inr ⟨r, rfl, rfl, ?_⟩)
        cases Config.commandFirst s.freeDrawn with
        | true => exact .inl rfl
        | false => exact .inr rfl

theorem State.runCommand_extends {code : Byte} {owner : State → Reply} (h : ∀ t, Served t (owner t)) :
    (s.runCommand code owner).Extends s := by
  obtain ⟨-, heq⟩ | ⟨-, heq⟩ | ⟨r, -, -, heq | heq⟩ := s.runCommand_cases code owner <;> rw [heq]
  · exact .of_eq rfl rfl rfl
  · exact (State.serve_extends h).trans (.of_eq rfl rfl rfl)
  · exact (State.sample_extends r).trans ((State.serve_extends h).trans (.of_eq rfl rfl rfl))
  · exact (State.serve_extends h).trans (.of_eq rfl rfl rfl)

/-- A command of TABLE 86 has a code byte; every other command is an event. -/
theorem hasOwner_of_isCommand {c : Instr} (h : isCommand c = true) : ∃ code, HasOwner c code := by
  obtain ⟨bs, hbs⟩ := Option.isSome_iff_exists.mp h
  cases bs with
  | nil => cases c <;> cases hbs
  | cons code args => exact ⟨code, hasOwner_of_commandBytes hbs⟩

/-- A command that frame bytes spell is handed to its owner; anything else ends the frame as one ignored. -/
theorem runDecoded_eq (c : Instr) (s : State) :
    runDecoded c s = if isCommand c then exec c s else .next s.settleSample.deselect := by
  cases c <;> rfl

/-- Every event that a command of a received frame of any bits can be (TABLE 80). -/
theorem execFrameError_cases (bits : List Bool) (s : State) :
    (s.inFrame = false ∧ execFrameError bits s = .next s.deselect) ∨
      (s.rst = false ∧ s.mgmt.rx ≠ .idle ∧
        (execFrameError bits s = .next s.settleSample.deselect ∨
          (∃ code e, execFrameError bits s = .next (s.frameFailed code e)) ∨
          ∃ c, isCommand c = true ∧ execFrameError bits s = exec c s)) := by
  unfold execFrameError
  split
  case h_2 hmatch =>
    refine .inl ⟨?_, rfl⟩
    cases hrst : s.rst with
    | true => simp [State.inFrame, hrst]
    | false =>
      cases hrx : s.mgmt.rx with
      | idle => simp [State.inFrame, hrx]
      | receiving buffer => exact absurd hrx (hmatch buffer hrst)
  case h_1 buffer hrst hrx =>
    refine .inr ⟨hrst, by simp [hrx], ?_⟩
    split
    case h_1 => exact .inl rfl
    case h_2 => exact .inl rfl
    case h_3 code e _ => exact .inr (.inl ⟨code, e, rfl⟩)
    case h_4 c _ =>
      rw [runDecoded_eq]
      split
      · next hcommand => exact .inr (.inr ⟨c, hcommand, rfl⟩)
      · exact .inl rfl

/-! ### Every command -/

theorem exec_extends_of_isCommand {c : Instr} (h : isCommand c = true) : ∃ t, exec c s = .next t ∧ t.Extends s := by
  obtain ⟨code, owner, hexec, hserved⟩ := hasOwner_of_isCommand h
  exact ⟨_, hexec s, State.runCommand_extends hserved⟩

theorem execFrameError_extends (bits : List Bool) : ∃ t, exec (.frameError bits) s = .next t ∧ t.Extends s := by
  have hend : s.settleSample.deselect.Extends s := .of_eq rfl rfl rfl
  obtain ⟨-, h⟩ | ⟨-, -, h | ⟨code, e, h⟩ | ⟨c, hc, h⟩⟩ := execFrameError_cases bits s
  · exact ⟨_, h, .of_eq rfl rfl rfl⟩
  · exact ⟨_, h, hend⟩
  · exact ⟨_, h, .of_eq rfl rfl rfl⟩
  · obtain ⟨t, ht, hext⟩ := exec_extends_of_isCommand (s := s) hc
    exact ⟨t, h.trans ht, hext⟩

theorem State.expire_extends : s.expire.Extends s := .of_eq (by simp) (by simp) (by simp)

theorem State.settle_extends : s.settle.Extends s :=
  State.expire_extends.trans ((State.withWindow_extends _ _).trans State.takeDueStart_extends)

/-- An update under a condition extends when the update does. -/
theorem State.Extends.ite {p : Prop} [Decidable p] {t : State} (h : t.Extends s) : (if p then t else s).Extends s := by
  split
  · exact h
  · exact .refl

theorem State.Extends.ite_not {p : Prop} [Decidable p] {t : State} (h : t.Extends s) : (if p then s else t).Extends s := by
  split
  · exact .refl
  · exact h

/-- Every command has a next state, which calls nothing back (R1). -/
theorem exec_extends (c : Instr) (s : State) : ∃ t, exec c s = .next t ∧ t.Extends s := by
  cases c
  case arrival m =>
    refine ⟨_, rfl, ?_⟩
    refine .ite_not ?_
    split
    · exact .of_eq (by simp) (by simp) (by simp)
    · exact .refl
  case issue =>
    refine ⟨_, rfl, .ite_not ?_⟩
    split
    · exact State.issueTo_extends _ _
    · exact .refl
  case southResponseIntake m => exact ⟨_, rfl, .ite_not (State.intake_extends _)⟩
  case forwarding =>
    refine ⟨_, rfl, ?_⟩
    split
    · split
      · exact State.forward_extends ..
      · exact .refl
    · exact .refl
  case timeoutReply =>
    refine ⟨_, rfl, ?_⟩
    split
    · split
      · exact State.timeOut_extends ..
      · exact .refl
    · exact .refl
  case owedReply =>
    refine ⟨_, rfl, ?_⟩
    split
    · split
      · split
        · exact State.sendOwed_extends ..
        · exact .refl
      · exact .refl
    · exact .refl
  case microtick =>
    exact ⟨_, rfl, .ite_not ((State.withWindow_extends _ _).trans
      (State.settle_extends.trans State.settleSample_extends))⟩
  case expiry => exact ⟨_, rfl, .ite_not (State.expire_extends.trans State.settleSample_extends)⟩
  case windowStartEvent => exact ⟨_, rfl, .ite_not State.takeDueStart_extends⟩
  case phaseOpen ch => exact ⟨_, rfl, .ite (.of_eq rfl rfl rfl)⟩
  case phaseClose ch => exact ⟨_, rfl, .ite (.of_eq rfl rfl rfl)⟩
  case nlrstAssert => exact ⟨_, rfl, .ite_not (by split; exacts [.of_eq rfl rfl rfl, State.linkReset_extends])⟩
  case nlrstRelease => exact ⟨_, rfl, .ite_not (by split; exacts [.of_eq rfl rfl rfl, .of_eq rfl rfl rfl])⟩
  case rstAssert => exact ⟨_, rfl, .ite_not (.of_eq rfl rfl rfl)⟩
  case rstRelease => exact ⟨_, rfl, .ite ((State.Extends.of_eq rfl rfl rfl).trans State.cutFrame_extends)⟩
  case frameIgnored => exact ⟨_, rfl, .of_eq rfl rfl rfl⟩
  case frameError bits => exact execFrameError_extends bits
  case nop bits => exact ⟨_, rfl, .of_eq rfl rfl rfl⟩
  case selFallingEdge => exact ⟨_, rfl, .ite_not (by split; exacts [.of_eq rfl rfl rfl, .of_eq rfl rfl rfl])⟩
  all_goals exact exec_extends_of_isCommand rfl

/-! ### The answer to a command frame -/

/-- An owner that answers a status other than OK has changed nothing and sends no data (R170, R175). -/
theorem Served.answer {r : Reply} (h : Served s r) :
    r.data.length ≤ 64 ∧ r.status ∈ [Status.ok, .busy, .badArg, .badIndex, .state, .empty] ∧
      (r.status ≠ .ok → r.data = [] ∧ r.state = s) := by
  cases h
  case turnedAway st hstatus => exact ⟨by simp, List.mem_cons_of_mem _ hstatus, fun _ => ⟨rfl, rfl⟩⟩
  case shown hlen | reclaim hlen _ | purge hlen | captureNow hlen | captureRelease hlen =>
    exact ⟨hlen, by simp, fun h => absurd rfl h⟩
  all_goals exact ⟨by simp, by simp, fun h => absurd rfl h⟩

/-- The end of a received command frame: the answer and its sequence number (R167, R170). -/
theorem State.runCommand_answers {code : Byte} {owner : State → Reply} (h : ∀ t, Served t (owner t))
    (hframe : s.inFrame = true) :
    ∃ st data, (s.runCommand code owner).mgmt =
        { s.mgmt with
          selected := false
          rx := .idle
          sequence := s.mgmt.sequence + 1
          held := { status := st, echo := code, sequence := s.mgmt.sequence + 1, data := data } } ∧
      data.length ≤ 64 ∧ st ∈ [Status.ok, .busy, .badArg, .badIndex, .state, .empty] ∧
      (st ≠ .ok → data = [] ∧ (s.accounting.sampleDue = none →
        s.runCommand code owner = { s with mgmt := (s.runCommand code owner).mgmt })) := by
  have hserve : ∀ u : State, u.mgmt = s.mgmt → ∃ st data, (u.serve code owner).mgmt =
        { s.mgmt with
          selected := false
          rx := .idle
          sequence := s.mgmt.sequence + 1
          held := { status := st, echo := code, sequence := s.mgmt.sequence + 1, data := data } } ∧
      data.length ≤ 64 ∧ st ∈ [Status.ok, .busy, .badArg, .badIndex, .state, .empty] ∧
      (st ≠ .ok → data = [] ∧ (owner u).state = u) := by
    intro u hmgmt
    obtain ⟨-, hkept, -⟩ := (h u).frame
    exact ⟨_, _, by simp only [State.serve, State.answered, hkept, hmgmt], (h u).answer⟩
  obtain ⟨hno, -⟩ | ⟨-, heq⟩ | ⟨r, -, hdue, heq | heq⟩ := s.runCommand_cases code owner
  · rw [hframe] at hno; cases hno
  · rw [heq]
    obtain ⟨st, data, hmgmt, hlen, hst, hrest⟩ := hserve s.settleSample rfl
    refine ⟨st, data, hmgmt, hlen, hst, fun hne => ?_⟩
    obtain ⟨hdata, hstate⟩ := hrest hne
    refine ⟨hdata, fun hnone => ?_⟩
    rw [s.settleSample_none hnone] at hstate ⊢
    simp only [State.serve, hstate]
    rfl
  · rw [heq]
    obtain ⟨st, data, hmgmt, hlen, hst, hrest⟩ := hserve s.drawOrder rfl
    refine ⟨st, data, hmgmt, hlen, hst, fun hne => ⟨(hrest hne).1, fun hnone => ?_⟩⟩
    rw [hdue] at hnone; cases hnone
  · rw [heq]
    obtain ⟨st, data, hmgmt, hlen, hst, hrest⟩ := hserve (s.drawOrder.sample r) rfl
    refine ⟨st, data, hmgmt, hlen, hst, fun hne => ⟨(hrest hne).1, fun hnone => ?_⟩⟩
    rw [hdue] at hnone; cases hnone

/-- The codes that may fall between a notice and its sample are those of the commands of R147 and TABLE 73. -/
theorem fallsBetween_iff {c : Instr} {code : Byte} {args : List Byte} (h : commandBytes c = some (code :: args)) :
    fallsBetween code = true ↔
      c ∈ [Instr.windowStart, .freeze, .unfreeze, .histogramClear, .captureNow] ∨
        (∃ a, c = .histogramSet a) ∨ ∃ part, c = .histogramRead part := by
  cases c <;> cases h <;> simp [fallsBetween]

end Sys2Proof.Machine

namespace Sys2Proof

/-- Settles O1: the step's own two cases. -/
theorem stepRunsFrontCommand : Obligations.StepRunsFrontCommand := by
  unfold Obligations.StepRunsFrontCommand
  refine ⟨fun c rest s => rfl, fun s hempty => ?_⟩
  rw [Machine.step, hempty]

/-- Settles O2: every event and every owner of a command extends the records of sent messages. -/
theorem everyCommandAnswersNext : Obligations.EveryCommandAnswersNext := by
  unfold Obligations.EveryCommandAnswersNext
  exact fun c s => Machine.exec_extends c s

/-- Settles O36: the owner's answer of a received frame, and the two orders of a command and a sample that is due. -/
theorem everyCommandFrameIsAnswered : Obligations.EveryCommandFrameIsAnswered := by
  unfold Obligations.EveryCommandFrameIsAnswered
  intro c code args s hbytes
  obtain ⟨owner, hexec, hserved⟩ := Machine.hasOwner_of_commandBytes hbytes
  refine ⟨fun hframe => ?_, fun r hframe hdue => ?_, fun hframe => ?_⟩
  · obtain ⟨st, data, hanswer⟩ := Machine.State.runCommand_answers (code := code) hserved hframe
    exact ⟨_, st, data, hexec s, hanswer⟩
  · intro u between
    have hbetween : Machine.fallsBetween code = true ↔ between := Machine.fallsBetween_iff hbytes
    simp only [hexec]
    refine ⟨fun hno => ?_, fun hyes => ?_⟩
    · have hcode : Machine.fallsBetween code = false := Bool.eq_false_of_not_eq_true fun h => hno (hbetween.mp h)
      rw [s.runCommand_settles code owner hframe hcode,
        s.settleSample.runCommand_settles code owner hframe hcode, s.settleSample.settleSample_none (by simp)]
    · rw [s.runCommand_sampleDue code owner hframe (hbetween.mpr hyes) hdue]
      refine ⟨fun hlater => ?_, fun hfirst => ⟨_, rfl, ?_⟩⟩
      · rw [hlater]; rfl
      · rw [hfirst]; rfl
  · rw [hexec, s.runCommand_notInFrame code owner hframe]
    rfl

end Sys2Proof
end

section
/-! The laws of the traffic, law by law: the pending list with its pool, the references, the candidate, the slots and
the link reset, each with what the operations do to it (R67 to R70, R89 to R96, R108). -/

namespace Sys2Proof

theorem setAt_fin {α : Type} {n : Nat} (v : Vector α n) (i j : Fin n) (x : α) :
    (setAt v i x)[j] = if i = j then x else v[j] := by
  simp [Fin.ext_iff]

theorem setAt_fin_self {α : Type} {n : Nat} (v : Vector α n) (i : Fin n) (x : α) : (setAt v i x)[i] = x := by
  rw [setAt_fin, if_pos rfl]

theorem setAt_fin_ne {α : Type} {n : Nat} (v : Vector α n) {i j : Fin n} (x : α) (h : i ≠ j) :
    (setAt v i x)[j] = v[j] := by
  rw [setAt_fin, if_neg h]

theorem mapAll_fin {α β : Type} {n : Nat} (f : α → β) (v : Vector α n) (j : Fin n) : (mapAll f v)[j] = f v[j] := by
  simp

namespace Machine

/-! ### Slots -/

theorem Slot.inStage_iff {t : Slot} {g : SlotStage} : t.inStage g = true ↔ ∃ q, t.use = .busy g q := by
  unfold Slot.inStage
  cases t.use <;> simp

theorem Slot.inStage_of_free {t : Slot} (h : t.use = .free) (g : SlotStage) : t.inStage g = false := by
  simp [Slot.inStage, h]

theorem Slot.inStage_of_busy {t : Slot} {g : SlotStage} {q : SlotRequest} (h : t.use = .busy g q) (g' : SlotStage) :
    t.inStage g' = (g == g') := by
  simp [Slot.inStage, h]

theorem Slot.wf_of_free {t : Slot} (h : t.use = .free) (now : Time) : t.wf now := by
  simp [Slot.wf, h]

theorem Slot.wf_of_busy {t : Slot} {g : SlotStage} {q : SlotRequest} (h : t.use = .busy g q) (now : Time) :
    t.wf now ↔ (1 ≤ q.beats.toNat ∧ q.beats.toNat ≤ 16) ∧ (g = .timedOut → q.deadline ≠ none) ∧
      (g = .issued → ∀ d, q.deadline = some d → (d - now).toNat ≤ 1048575) := by
  simp [Slot.wf, h]

@[simp] theorem Slot.freed_use (t : Slot) : t.freed.use = .free := rfl

theorem Slot.toStage_use {t : Slot} {g : SlotStage} {q : SlotRequest} (h : t.use = .busy g q) (g' : SlotStage) :
    (t.toStage g').use = .busy g' q := by
  simp [Slot.toStage, h]

theorem Slot.toStage_of_free {t : Slot} (h : t.use = .free) (g : SlotStage) : t.toStage g = t := by
  simp [Slot.toStage, h]

theorem Slot.toStage_of_busy {t : Slot} {g : SlotStage} {q : SlotRequest} (h : t.use = .busy g q) (g' : SlotStage) :
    t.toStage g' = { generation := t.generation, use := .busy g' q } := by
  simp [Slot.toStage, h]

theorem Slot.expiresAt_iff {t : Slot} {now : Time} :
    t.expiresAt now = true ↔ ∃ q, t.use = .busy .issued q ∧ q.deadline = some now := by
  unfold Slot.expiresAt
  split
  · next q h => simp [h]
  · next h =>
    simp only [Bool.false_eq_true, false_iff, not_exists, not_and]
    exact fun q hq => absurd hq (h q)

/-- Expiry of a slot: TIMED_OUT with its fields kept when its deadline has come, and otherwise no change (R93). -/
theorem Slot.expired_of_expires {t : Slot} {now : Time} {q : SlotRequest} (h : t.expiresAt now = true)
    (huse : t.use = .busy .issued q) : t.expired now = { generation := t.generation, use := .busy .timedOut q } := by
  rw [Slot.expired, if_pos h, Slot.toStage_of_busy huse]

theorem Slot.expired_of_not {t : Slot} {now : Time} (h : t.expiresAt now = false) : t.expired now = t := by
  simp [Slot.expired, h]

theorem State.mem_expiring {s : State} {i : SlotIx} :
    i ∈ s.expiring ↔ s.slots[i].expiresAt s.window.partTime = true := by
  simp [State.expiring]

theorem State.expiring_nodup (s : State) : s.expiring.Nodup := (List.nodup_finRange 64).filter _

/-! ### The pending list -/

theorem PendingEntry.isWaiting_iff {e : PendingEntry} : e.isWaiting = true ↔ e.state = .waiting := by
  simp [PendingEntry.isWaiting]

theorem PendingEntry.isWaiting_eq_false_iff {e : PendingEntry} : e.isWaiting = false ↔ ∃ k, e.state = .replyOwed k := by
  unfold PendingEntry.isWaiting
  cases e.state <;> simp

/-- Names being distinct, the entry of a name is the entry itself. -/
theorem removeEntry_eq_erase {l : List PendingEntry} {e : PendingEntry} (hmem : e ∈ l)
    (hdistinct : (l.map PendingEntry.id).Nodup) : removeEntry e.id l = l.erase e := by
  rw [removeEntry, List.erase_eq_eraseP]
  induction l with
  | nil => rfl
  | cons x l ih =>
    obtain ⟨hx, hl⟩ := List.nodup_cons.mp hdistinct
    obtain rfl | hin := List.mem_cons.mp hmem
    · simp
    · have hid : x.id ≠ e.id := fun heq => hx (heq ▸ List.mem_map_of_mem hin)
      have hne : e ≠ x := fun heq => hid (heq ▸ rfl)
      simp [hid, hne, ih hin hl]

/-- The laws of the pending list and the data pool (R67, R68, R70). -/
structure ListLaw (l : List PendingEntry) (next : Nat) : Prop where
  bound : l.length ≤ 32
  pool : (l.map PendingEntry.poolBeats).sum ≤ 256
  fresh : ∀ e ∈ l, e.id < next
  distinct : (l.map PendingEntry.id).Nodup
  wf : ∀ e ∈ l, e.wf

theorem ListLaw.nil (next : Nat) : ListLaw [] next :=
  ⟨by simp, by simp, by simp, List.nodup_nil, by simp⟩

theorem ListLaw.snoc {l : List PendingEntry} {next : Nat} (h : ListLaw l next) {e : PendingEntry} (hid : e.id = next)
    (hroom : l.length < 32) (hpool : (l.map PendingEntry.poolBeats).sum + e.poolBeats ≤ 256) (hwf : e.wf) :
    ListLaw (l ++ [e]) (next + 1) := by
  refine ⟨by simp; omega, by simpa using hpool, ?_, ?_, ?_⟩
  · intro x hx
    obtain hx | hx := List.mem_append.mp hx
    · exact Nat.lt_succ_of_lt (h.fresh x hx)
    · obtain rfl := List.mem_singleton.mp hx
      omega
  · have hnew : next ∉ l.map PendingEntry.id := fun hin => by
      obtain ⟨x, hx, hxid⟩ := List.mem_map.mp hin
      exact absurd (h.fresh x hx) (by omega)
    rw [List.map_append, List.map_singleton, hid, ← List.concat_eq_append]
    exact h.distinct.concat hnew
  · intro x hx
    obtain hx | hx := List.mem_append.mp hx
    · exact h.wf x hx
    · obtain rfl := List.mem_singleton.mp hx
      exact hwf

theorem ListLaw.sublist {l l' : List PendingEntry} {next : Nat} (h : ListLaw l next) (hsub : l'.Sublist l) :
    ListLaw l' next :=
  ⟨hsub.length_le.trans h.bound, (List.Sublist.sum_le_sum (hsub.map _) (by simp)).trans h.pool,
    fun e he => h.fresh e (hsub.subset he), h.distinct.sublist (hsub.map _), fun e he => h.wf e (hsub.subset he)⟩

theorem removeEntry_sublist (id : Nat) (l : List PendingEntry) : (removeEntry id l).Sublist l :=
  List.eraseP_sublist

@[simp] theorem PendingEntry.purged_id (i : StreamIx) (e : PendingEntry) : (e.purged i).id = e.id := by
  unfold PendingEntry.purged; split <;> rfl

theorem PendingEntry.purged_of_waiting {i : StreamIx} {e : PendingEntry} (h : e.isWaiting = true) (hs : e.stream = i) :
    e.purged i = { e with state := .replyOwed .aborted, data := [] } := by
  simp [PendingEntry.purged, h, hs]

theorem PendingEntry.purged_of_not {i : StreamIx} {e : PendingEntry} (h : ¬ (e.isWaiting = true ∧ e.stream = i)) :
    e.purged i = e := by
  simpa [PendingEntry.purged] using fun hw hs => absurd ⟨hw, hs⟩ h

theorem PendingEntry.poolBeats_of_owed {e : PendingEntry} (h : e.isWaiting = false) : e.poolBeats = 0 := by
  simp [PendingEntry.poolBeats, h]

/-- A conversion gives up pool beats and keeps the entry's shape (R81). -/
theorem PendingEntry.purged_poolBeats_le (i : StreamIx) (e : PendingEntry) : (e.purged i).poolBeats ≤ e.poolBeats := by
  by_cases h : e.isWaiting = true ∧ e.stream = i
  · rw [PendingEntry.purged_of_waiting h.1 h.2, PendingEntry.poolBeats_of_owed rfl]
    exact Nat.zero_le _
  · rw [PendingEntry.purged_of_not h]

theorem PendingEntry.wf_of_waiting {e : PendingEntry} (h : e.isWaiting = true) :
    e.wf ↔ 1 ≤ e.beats.toNat ∧ e.beats.toNat ≤ 16 ∧ e.data.length = if e.kind = .write then e.beats.toNat else 0 := by
  simp [PendingEntry.wf, PendingEntry.isWaiting_iff.mp h]

theorem PendingEntry.purged_wf {i : StreamIx} {e : PendingEntry} (hwf : e.wf) : (e.purged i).wf := by
  by_cases h : e.isWaiting = true ∧ e.stream = i
  · obtain ⟨hlow, hhigh, -⟩ := (PendingEntry.wf_of_waiting h.1).mp hwf
    rw [PendingEntry.purged_of_waiting h.1 h.2]
    exact ⟨rfl, hlow, hhigh⟩
  · rwa [PendingEntry.purged_of_not h]

theorem ListLaw.purge {l : List PendingEntry} {next : Nat} (h : ListLaw l next) (i : StreamIx) :
    ListLaw (l.map (PendingEntry.purged i)) next := by
  have hids : (l.map (PendingEntry.purged i)).map PendingEntry.id = l.map PendingEntry.id := by
    simp [Function.comp_def]
  refine ⟨by simpa using h.bound, ?_, ?_, hids ▸ h.distinct, ?_⟩
  · refine le_trans ?_ h.pool
    rw [List.map_map]
    exact List.sum_le_sum fun e _ => e.purged_poolBeats_le i
  · simpa using h.fresh
  · simpa using fun e he => PendingEntry.purged_wf (h.wf e he)

/-! ### The reply order list -/

/-- The laws of the reply order list (R94, R108): it names each REPLY_OWED entry and each TIMED_OUT slot once. -/
structure RefLaw (refs : List Ref) (l : List PendingEntry) (slots : Vector Slot 64) : Prop where
  distinct : refs.Nodup
  entries : ∀ id, Ref.entry id ∈ refs ↔ ∃ e ∈ l, e.id = id ∧ e.isWaiting = false
  slots : ∀ i : SlotIx, Ref.slot i ∈ refs ↔ slots[i].inStage .timedOut = true

section
variable {refs : List Ref} {l : List PendingEntry} {slots : Vector Slot 64}

theorem RefLaw.nil (h : ∀ i : SlotIx, slots[i].inStage .timedOut = false) : RefLaw [] [] slots :=
  ⟨List.nodup_nil, by simp, fun i => by rw [h i]; simp⟩

theorem RefLaw.congr_slots (h : RefLaw refs l slots) {v : Vector Slot 64}
    (hv : ∀ i : SlotIx, v[i].inStage .timedOut = slots[i].inStage .timedOut) : RefLaw refs l v :=
  ⟨h.distinct, h.entries, fun i => by rw [hv i]; exact h.slots i⟩

theorem RefLaw.snocWaiting (h : RefLaw refs l slots) {e : PendingEntry} (he : e.isWaiting = true) :
    RefLaw refs (l ++ [e]) slots := by
  refine ⟨h.distinct, fun id => (h.entries id).trans ?_, h.slots⟩
  simp [or_and_right, exists_or, he]

theorem RefLaw.snocOwed (h : RefLaw refs l slots) {e : PendingEntry} (he : e.isWaiting = false)
    (hnew : e.id ∉ l.map PendingEntry.id) : RefLaw (refs ++ [.entry e.id]) (l ++ [e]) slots := by
  refine ⟨?_, fun id => ?_, fun i => ?_⟩
  · have hout : Ref.entry e.id ∉ refs := fun hin => by
      obtain ⟨x, hx, hid, -⟩ := (h.entries _).mp hin
      exact hnew (hid ▸ List.mem_map_of_mem hx)
    simpa using h.distinct.concat hout
  · rw [List.mem_append, h.entries id]
    simp [or_and_right, exists_or, he, eq_comm (a := id)]
  · rw [List.mem_append, h.slots i]
    simp

/-- A WAITING entry leaves the list: no reference names it. -/
theorem RefLaw.eraseWaiting (h : RefLaw refs l slots) {e : PendingEntry} (he : e.isWaiting = true)
    (hdistinct : l.Nodup) : RefLaw refs (l.erase e) slots := by
  refine ⟨h.distinct, fun id => (h.entries id).trans ?_, h.slots⟩
  constructor
  · rintro ⟨x, hx, hid, howed⟩
    have hne : x ≠ e := by rintro rfl; rw [he] at howed; cases howed
    exact ⟨x, hdistinct.mem_erase_iff.mpr ⟨hne, hx⟩, hid, howed⟩
  · rintro ⟨x, hx, hid, howed⟩
    exact ⟨x, List.mem_of_mem_erase hx, hid, howed⟩

/-- An entry in REPLY_OWED leaves the list with the reference that names it, which is the head (R80). -/
theorem RefLaw.eraseOwed {e : PendingEntry} (h : RefLaw (.entry e.id :: refs) l slots) (he : e ∈ l)
    (hdistinct : (l.map PendingEntry.id).Nodup) : RefLaw refs (l.erase e) slots := by
  obtain ⟨hhead, htail⟩ := List.nodup_cons.mp h.distinct
  have hl : l.Nodup := hdistinct.of_map
  refine ⟨htail, fun id => ?_, fun i => ?_⟩
  · constructor
    · intro hin
      obtain ⟨x, hx, hid, howed⟩ := (h.entries id).mp (List.mem_cons_of_mem _ hin)
      have hne : x ≠ e := by rintro rfl; exact hhead (hid ▸ hin)
      exact ⟨x, hl.mem_erase_iff.mpr ⟨hne, hx⟩, hid, howed⟩
    · rintro ⟨x, hx, rfl, howed⟩
      obtain ⟨hne, hx⟩ := hl.mem_erase_iff.mp hx
      obtain heq | hin := List.mem_cons.mp ((h.entries x.id).mpr ⟨x, hx, rfl, howed⟩)
      · exact absurd (List.inj_on_of_nodup_map hdistinct hx he (Ref.entry.inj heq)) hne
      · exact hin
  · rw [← h.slots i]
    simp

/-- A slot's reference leaves, as the slot ceases to be TIMED_OUT (R98, R99). -/
theorem RefLaw.eraseSlot (h : RefLaw refs l slots) {i : SlotIx} {t : Slot} (ht : t.inStage .timedOut = false) :
    RefLaw (refs.erase (.slot i)) l (setAt slots i t) := by
  refine ⟨h.distinct.erase _, fun id => ?_, fun j => ?_⟩
  · rw [← h.entries id, h.distinct.mem_erase_iff]
    simp
  · rw [h.distinct.mem_erase_iff, h.slots j, setAt_fin]
    by_cases hij : i = j
    · simp [hij, ht]
    · simp [hij, Ne.symm hij]

/-- A slot that is not TIMED_OUT changes within that. -/
theorem RefLaw.setSlot (h : RefLaw refs l slots) {i : SlotIx} {t : Slot} (hold : slots[i].inStage .timedOut = false)
    (hnew : t.inStage .timedOut = false) : RefLaw refs l (setAt slots i t) :=
  h.congr_slots fun j => by
    rw [setAt_fin]
    split
    · next hij => subst hij; rw [hold, hnew]
    · rfl

/-- Slots that were not TIMED_OUT become so, with their references appended (R93). -/
theorem RefLaw.expire (h : RefLaw refs l slots) {due : List SlotIx} (hdue : due.Nodup) {v : Vector Slot 64}
    (hold : ∀ i : SlotIx, i ∈ due → slots[i].inStage .timedOut = false)
    (hnew : ∀ i : SlotIx, v[i].inStage .timedOut = true ↔ slots[i].inStage .timedOut = true ∨ i ∈ due) :
    RefLaw (refs ++ due.map .slot) l v := by
  refine ⟨List.Nodup.append h.distinct (hdue.map fun _ _ => Ref.slot.inj) ?_, fun id => ?_, fun i => ?_⟩
  · rintro x hx hin
    obtain ⟨i, hi, rfl⟩ := List.mem_map.mp hin
    rw [h.slots i, hold i hi] at hx
    cases hx
  · rw [← h.entries id]
    simp
  · rw [hnew i, ← h.slots i]
    simp

/-- The WAITING entries of a stream become REPLY_OWED with their references appended (R81). -/
theorem RefLaw.purge (h : RefLaw refs l slots) (hdistinct : (l.map PendingEntry.id).Nodup) (i : StreamIx) :
    RefLaw (refs ++ (l.filter fun e => e.isWaiting && e.stream == i).map fun e => .entry e.id)
      (l.map (PendingEntry.purged i)) slots := by
  have hsub : (l.filter fun e => e.isWaiting && e.stream == i).Sublist l := List.filter_sublist
  refine ⟨List.Nodup.append h.distinct ?_ ?_, fun id => ?_, fun j => ?_⟩
  · have hids := hdistinct.sublist (hsub.map PendingEntry.id)
    have hrefs := hids.map (f := Ref.entry) fun _ _ => Ref.entry.inj
    rwa [List.map_map] at hrefs
  · rintro x hx hin
    obtain ⟨e, he, rfl⟩ := List.mem_map.mp hin
    obtain ⟨he, hw⟩ := List.mem_filter.mp he
    obtain ⟨hw, -⟩ := Bool.and_eq_true_iff.mp hw
    obtain ⟨y, hy, hid, howed⟩ := (h.entries _).mp hx
    obtain rfl := List.inj_on_of_nodup_map hdistinct hy he hid
    rw [hw] at howed
    cases howed
  · rw [List.mem_append, h.entries id]
    constructor
    · rintro (⟨e, he, hid, howed⟩ | hin)
      · refine ⟨e.purged i, List.mem_map_of_mem he, by simpa using hid, ?_⟩
        rwa [PendingEntry.purged_of_not (by simp [howed])]
      · obtain ⟨e, he, hid⟩ := List.mem_map.mp hin
        obtain ⟨he, hw⟩ := List.mem_filter.mp he
        simp only [Bool.and_eq_true, beq_iff_eq] at hw
        refine ⟨e.purged i, List.mem_map_of_mem he, by simpa using Ref.entry.inj hid, ?_⟩
        rw [PendingEntry.purged_of_waiting hw.1 hw.2]
        rfl
    · rintro ⟨x, hx, hid, howed⟩
      obtain ⟨e, he, rfl⟩ := List.mem_map.mp hx
      rw [PendingEntry.purged_id] at hid
      by_cases hw : e.isWaiting = true ∧ e.stream = i
      · refine .inr (List.mem_map.mpr ⟨e, List.mem_filter.mpr ⟨he, ?_⟩, hid ▸ rfl⟩)
        simp [hw]
      · rw [PendingEntry.purged_of_not hw] at howed
        exact .inl ⟨e, he, hid, howed⟩
  · rw [← h.slots j]
    simp

end

/-! ### The delivery candidate -/

/-- The laws of the delivery candidate (R12, R96). -/
structure CandidateLaw (candidate : Option Candidate) (slots : Vector Slot 64) : Prop where
  slot : ∀ c, candidate = some c → slots[c.slot].inStage .issued = true ∨ slots[c.slot].inStage .timedOut = true
  data : ∀ c g q, candidate = some c → slots[c.slot].use = .busy g q →
    c.data.length = if c.ok = true ∧ q.kind = .read then q.beats.toNat else 0

theorem CandidateLaw.of_none (slots : Vector Slot 64) : CandidateLaw none slots :=
  ⟨by simp, by simp⟩

section
variable {candidate : Option Candidate} {slots : Vector Slot 64}

/-- The candidate's slot keeps its request fields and stays ISSUED or TIMED_OUT. -/
theorem CandidateLaw.congr (h : CandidateLaw candidate slots) {v : Vector Slot 64}
    (hv : ∀ c, candidate = some c → ∀ g q, slots[c.slot].use = .busy g q → g ≠ .orphaned →
      ∃ g', g' ≠ .orphaned ∧ v[c.slot].use = .busy g' q) : CandidateLaw candidate v := by
  have hused : ∀ c, candidate = some c →
      ∃ g q g', slots[c.slot].use = .busy g q ∧ g' ≠ .orphaned ∧ v[c.slot].use = .busy g' q := by
    intro c hc
    have hbusy : ∃ g q, slots[c.slot].use = .busy g q ∧ g ≠ .orphaned := by
      obtain hi | ht := h.slot c hc
      · obtain ⟨q, hq⟩ := Slot.inStage_iff.mp hi
        exact ⟨_, q, hq, by simp⟩
      · obtain ⟨q, hq⟩ := Slot.inStage_iff.mp ht
        exact ⟨_, q, hq, by simp⟩
    obtain ⟨g, q, hq, hg⟩ := hbusy
    obtain ⟨g', hg', hq'⟩ := hv c hc g q hq hg
    exact ⟨g, q, g', hq, hg', hq'⟩
  refine ⟨fun c hc => ?_, fun c g q hc hq => ?_⟩
  · obtain ⟨g, q, g', -, hg', hq'⟩ := hused c hc
    rw [Slot.inStage_of_busy hq', Slot.inStage_of_busy hq']
    cases g' with
    | issued => exact .inl rfl
    | timedOut => exact .inr rfl
    | orphaned => exact absurd rfl hg'
  · obtain ⟨g₀, q₀, g', hq₀, -, hq'⟩ := hused c hc
    rw [hq] at hq'
    cases hq'
    exact h.data c g₀ q hc hq₀

/-- A slot that is neither ISSUED nor TIMED_OUT is not the candidate's. -/
theorem CandidateLaw.setSlot (h : CandidateLaw candidate slots) {i : SlotIx} (t : Slot)
    (hissued : slots[i].inStage .issued = false) (htimedOut : slots[i].inStage .timedOut = false) :
    CandidateLaw candidate (setAt slots i t) := by
  refine h.congr fun c hc g q hq hg => ⟨g, hg, ?_⟩
  have hne : i ≠ c.slot := by
    rintro rfl
    obtain hi | ht := h.slot c hc
    · rw [hissued] at hi; cases hi
    · rw [htimedOut] at ht; cases ht
  rwa [setAt_fin_ne _ _ hne]

end

/-! ### The slots -/

/-- The law of the slots (R89, R92, R93). -/
structure SlotLaw (slots : Vector Slot 64) (now : Time) : Prop where
  wf : ∀ i : SlotIx, slots[i].wf now

theorem SlotLaw.setSlot {slots : Vector Slot 64} {now : Time} (h : SlotLaw slots now) (i : SlotIx) {t : Slot}
    (ht : t.wf now) : SlotLaw (setAt slots i t) now := by
  refine ⟨fun j => ?_⟩
  rw [setAt_fin]
  split
  · exact ht
  · exact h.wf j

/-! ### The laws together -/

/-- The laws of the link reset (TABLE 12, R83, R103, R118). -/
structure ResetLaw (s : State) : Prop where
  port : s.rst = false → (s.port = .linkReset ↔ s.nlrst = true)
  quiet : s.rst = false → s.nlrst = true →
    s.entries = [] ∧ s.replyOrder = [] ∧ s.candidate = none ∧
      ∀ i : SlotIx, s.slots[i].inStage .issued = false ∧ s.slots[i].inStage .timedOut = false

theorem trafficInv_iff {s : State} :
    TrafficInv s ↔
      ListLaw s.entries s.nextId ∧ RefLaw s.replyOrder s.entries s.slots ∧ CandidateLaw s.candidate s.slots ∧
        SlotLaw s.slots s.window.partTime ∧ s.timeout ≤ 1048575 ∧ ResetLaw s :=
  ⟨fun h => ⟨⟨h.listBound, h.poolBound, h.idsFresh, h.idsDistinct, h.entriesWf⟩,
      ⟨h.refsDistinct, h.entryRefs, h.slotRefs⟩, ⟨h.candidateSlot, h.candidateData⟩, ⟨h.slotsWf⟩, h.timeoutBound,
      ⟨h.portReset, h.quiet⟩⟩,
    fun ⟨hl, hr, hc, hs, ht, hreset⟩ =>
      { listBound := hl.bound, poolBound := hl.pool, idsFresh := hl.fresh, idsDistinct := hl.distinct
        refsDistinct := hr.distinct, entryRefs := hr.entries, slotRefs := hr.slots
        candidateSlot := hc.slot, candidateData := hc.data, entriesWf := hl.wf, slotsWf := hs.wf
        timeoutBound := ht, portReset := hreset.port, quiet := hreset.quiet }⟩

/-- The two states agree in all that the laws of the traffic speak of. -/
structure State.SameTraffic (t s : State) : Prop where
  entries : t.entries = s.entries
  nextId : t.nextId = s.nextId
  replyOrder : t.replyOrder = s.replyOrder
  slots : t.slots = s.slots
  candidate : t.candidate = s.candidate
  partTime : t.window.partTime = s.window.partTime
  timeout : t.timeout = s.timeout
  port : t.port = s.port
  rst : t.rst = s.rst
  nlrst : t.nlrst = s.nlrst

theorem TrafficInv.of_same {s t : State} (h : TrafficInv s) (hsame : t.SameTraffic s) : TrafficInv t := by
  obtain ⟨hl, hr, hc, hs, ht, hreset⟩ := trafficInv_iff.mp h
  obtain ⟨he, hn, ho, hsl, hcand, hp, hto, hport, hrst, hnl⟩ := hsame
  refine trafficInv_iff.mpr ⟨?_, ?_, ?_, ?_, ?_, ?_, ?_⟩
  · rwa [he, hn]
  · rwa [ho, he, hsl]
  · rwa [hcand, hsl]
  · rwa [hsl, hp]
  · rwa [hto]
  · rw [hrst, hport, hnl]; exact hreset.port
  · rw [hrst, hnl, he, ho, hcand, hsl]; exact hreset.quiet

/-- With NLRST_N released, and the port open, there is no link reset to speak of; nor while RST_N is asserted. -/
def State.LinkOpen (s : State) : Prop := s.rst = false → s.nlrst = false ∧ s.port ≠ .linkReset

theorem State.LinkOpen.resetLaw {s : State} (h : s.LinkOpen) : ResetLaw s := by
  refine ⟨fun hrst => ?_, fun hrst hnlrst => ?_⟩
  · obtain ⟨hnlrst, hport⟩ := h hrst
    simp [hnlrst, hport]
  · rw [(h hrst).1] at hnlrst
    cases hnlrst

theorem TrafficInv.linkOpen_of_port {s : State} (h : TrafficInv s) (hport : s.port ≠ .linkReset) : s.LinkOpen :=
  fun hrst => ⟨Bool.eq_false_of_not_eq_true fun hn => hport ((h.portReset hrst).mpr hn), hport⟩

theorem TrafficInv.linkOpen_of_nlrst {s : State} (h : TrafficInv s) (hnlrst : s.nlrst = false) : s.LinkOpen :=
  fun hrst => ⟨hnlrst, fun hport => by rw [(h.portReset hrst).mp hport] at hnlrst; cases hnlrst⟩

/-- Whatever is quiet under a link reset shows that there is none. -/
theorem TrafficInv.linkOpen_of_not_quiet {s : State} (h : TrafficInv s)
    (hbusy : s.entries ≠ [] ∨ s.replyOrder ≠ [] ∨ s.candidate ≠ none ∨
      ∃ i : SlotIx, s.slots[i].inStage .issued = true ∨ s.slots[i].inStage .timedOut = true) : s.LinkOpen := by
  intro hrst
  refine h.linkOpen_of_nlrst (Bool.eq_false_of_not_eq_true fun hn => ?_) hrst
  obtain ⟨he, ho, hc, hs⟩ := h.quiet hrst hn
  obtain hb | hb | hb | ⟨i, hb | hb⟩ := hbusy
  · exact hb he
  · exact hb ho
  · exact hb hc
  · rw [(hs i).1] at hb; cases hb
  · rw [(hs i).2] at hb; cases hb

end Machine

end Sys2Proof
end

section
/-! Every step keeps the laws of the traffic: the admission attempt, the issue, the south responses, the north replies,
the events of time, the resets and the owners of the commands, one after another. -/

namespace Sys2Proof.Machine

/-! ### Well-formed requests (R3) -/

/-- A span of 1 to 16 beats from an aligned address leaves its page exactly when it ends beyond it. -/
theorem crossesPage_eq_false_iff {address : BitVec 40} {beats : BitVec 5} (hlow : 1 ≤ beats.toNat)
    (hhigh : beats.toNat ≤ 16) (haligned : address.toNat % 16 = 0) :
    crossesPage address beats = false ↔ address.toNat % 4096 + 16 * beats.toNat ≤ 4096 := by
  simp only [crossesPage, hlow, hhigh, haligned, decide_true, beq_self_eq_true, Bool.true_and, bne_eq_false_iff_eq]
  omega

theorem malformed_eq_false_iff {r : Request} :
    malformed r = false ↔
      1 ≤ r.beats.toNat ∧ r.beats.toNat ≤ 16 ∧ r.address.toNat % 16 = 0 ∧
        r.address.toNat % 4096 + 16 * r.beats.toNat ≤ 4096 ∧
        r.data.length = match r.kind with | .read => 0 | .write => r.beats.toNat := by
  have hdata : ((r.kind == .write && r.data.length != r.beats.toNat) = false ∧ (r.kind == .read && r.data != []) = false) ↔
      r.data.length = match r.kind with | .read => 0 | .write => r.beats.toNat := by
    cases r.kind <;> simp
  simp only [malformed, Bool.or_eq_false_iff, and_assoc, hdata]
  simp only [beq_eq_false_iff_ne, decide_eq_false_iff_not, bne_eq_false_iff_eq]
  constructor
  · rintro ⟨hzero, hhigh, haligned, hpage, hlen⟩
    have hlow : 1 ≤ r.beats.toNat := Nat.pos_of_ne_zero hzero
    exact ⟨hlow, by omega, haligned, (crossesPage_eq_false_iff hlow (by omega) haligned).mp hpage, hlen⟩
  · rintro ⟨hlow, hhigh, haligned, hpage, hlen⟩
    exact ⟨by omega, by omega, haligned, (crossesPage_eq_false_iff hlow hhigh haligned).mpr hpage, hlen⟩

/-! ### Steps that the laws of the traffic do not see -/

variable {s : State}

theorem State.SameTraffic.refl : s.SameTraffic s := ⟨rfl, rfl, rfl, rfl, rfl, rfl, rfl, rfl, rfl, rfl⟩

theorem State.withBooks_sameTraffic (b : Books) : (s.withBooks b).SameTraffic s :=
  ⟨rfl, rfl, rfl, rfl, rfl, rfl, rfl, rfl, rfl, rfl⟩

theorem TrafficInv.withBooks (h : TrafficInv s) (b : Books) : TrafficInv (s.withBooks b) :=
  h.of_same (State.withBooks_sameTraffic b)

theorem TrafficInv.emit (h : TrafficInv s) (ns : List Notice) : TrafficInv (s.emit ns) := by
  rw [State.emit_eq]
  exact h.withBooks _

theorem TrafficInv.sample (h : TrafficInv s) (r : SampleRecord) : TrafficInv (s.sample r) :=
  h.of_same ⟨rfl, rfl, rfl, rfl, rfl, rfl, rfl, rfl, rfl, rfl⟩

theorem TrafficInv.settleSample (h : TrafficInv s) : TrafficInv s.settleSample :=
  h.of_same ⟨rfl, rfl, rfl, rfl, rfl, rfl, rfl, rfl, rfl, rfl⟩

theorem TrafficInv.handSample (h : TrafficInv s) (r : SampleRecord) : TrafficInv (s.handSample r) := by
  obtain ⟨-, heq⟩ | ⟨-, heq⟩ := s.handSample_cases r <;> rw [heq]
  · exact h.of_same ⟨rfl, rfl, rfl, rfl, rfl, rfl, rfl, rfl, rfl, rfl⟩
  · exact h.sample r

theorem TrafficInv.withSticky (h : TrafficInv s) (f : StickyCauses → StickyCauses) : TrafficInv (s.withSticky f) :=
  h.of_same ⟨rfl, rfl, rfl, rfl, rfl, rfl, rfl, rfl, rfl, rfl⟩

theorem TrafficInv.northTake (h : TrafficInv s) (cls : ReplyClass) (r : NorthResponse) :
    TrafficInv (s.northTake cls r) :=
  h.of_same ⟨rfl, rfl, rfl, rfl, rfl, rfl, rfl, rfl, rfl, rfl⟩

theorem TrafficInv.withStreams (h : TrafficInv s) (v : Vector StreamEntry 16) :
    TrafficInv { s with streams := v } :=
  h.of_same ⟨rfl, rfl, rfl, rfl, rfl, rfl, rfl, rfl, rfl, rfl⟩

theorem TrafficInv.withWindow (h : TrafficInv s) {w : WindowGen} (hw : w.partTime = s.window.partTime) :
    TrafficInv (s.withWindow w) :=
  h.of_same ⟨rfl, rfl, rfl, rfl, rfl, hw, rfl, rfl, rfl, rfl⟩

theorem TrafficInv.windowStart (h : TrafficInv s) : TrafficInv s.windowStart := by
  rw [State.windowStart_eq]
  refine TrafficInv.withBooks ?_ _
  exact h.of_same ⟨rfl, rfl, rfl, rfl, rfl, rfl, rfl, rfl, rfl, rfl⟩

/-! ### Admission (R71 to R76) -/

theorem TrafficInv.withPort (h : TrafficInv s) (hopen : s.LinkOpen) {p : NorthPort} (hp : p ≠ .linkReset) :
    TrafficInv { s with port := p } := by
  obtain ⟨hl, hr, hc, hs, ht, -⟩ := trafficInv_iff.mp h
  have hopen' : State.LinkOpen { s with port := p } := fun hrst => ⟨(hopen hrst).1, hp⟩
  exact trafficInv_iff.mpr ⟨hl, hr, hc, hs, ht, hopen'.resetLaw⟩

theorem State.lacksRoom_eq_false_iff {r : Request} {i : StreamIx} :
    s.lacksRoom r i = false ↔
      s.waitingCount i < s.streams[i].holdLimit ∧ (r.kind = .write → r.beats.toNat ≤ s.poolFree) := by
  simp [State.lacksRoom, -Fin.getElem_fin]

theorem TrafficInv.admitWaiting (h : TrafficInv s) (hopen : s.LinkOpen) {r : Request} {i : StreamIx}
    (hroom : s.entries.length < 32) (hshape : malformed r = false) (hlevels : s.lacksRoom r i = false) :
    TrafficInv (s.admitWaiting r i) := by
  obtain ⟨hl, hr, hc, hs, ht, -⟩ := trafficInv_iff.mp h
  obtain ⟨hlow, hhigh, -, -, hlen⟩ := malformed_eq_false_iff.mp hshape
  obtain ⟨-, hbeats⟩ := State.lacksRoom_eq_false_iff.mp hlevels
  have hpool := hl.pool
  refine TrafficInv.emit ?_ _
  refine trafficInv_iff.mpr ⟨hl.snoc rfl hroom ?_ ?_, hr.snocWaiting rfl, hc, hs, ht, ?_⟩
  · simp only [PendingEntry.poolBeats, State.entryFor, PendingEntry.isWaiting, beq_self_eq_true, Bool.true_and, beq_iff_eq]
    split
    · next hwrite =>
      have := hbeats hwrite
      simp only [State.poolFree, Config.poolCapacity, State.poolInUse] at this
      omega
    · exact hpool
  · refine ⟨hlow, hhigh, ?_⟩
    simp only [State.entryFor, if_true, hlen]
    cases r.kind <;> rfl
  · exact State.LinkOpen.resetLaw fun hrst => ⟨(hopen hrst).1, by simp⟩

theorem TrafficInv.admitOwed (h : TrafficInv s) (hopen : s.LinkOpen) {r : Request} {k : ReplyKind} {i : StreamIx}
    (hroom : s.entries.length < 32) (hwf : (s.entryFor r (.replyOwed k) i).wf) : TrafficInv (s.admitOwed r k i) := by
  obtain ⟨hl, hr, hc, hs, ht, -⟩ := trafficInv_iff.mp h
  have hnew : s.nextId ∉ s.entries.map PendingEntry.id := fun hin => by
    obtain ⟨e, he, hid⟩ := List.mem_map.mp hin
    exact absurd (hl.fresh e he) (by omega)
  refine TrafficInv.emit ?_ _
  refine trafficInv_iff.mpr ⟨hl.snoc rfl hroom ?_ hwf, hr.snocOwed (e := s.entryFor r (.replyOwed k) i) rfl hnew, hc, hs, ht, ?_⟩
  · rw [PendingEntry.poolBeats_of_owed rfl]
    exact hl.pool
  · exact State.LinkOpen.resetLaw fun hrst => ⟨(hopen hrst).1, by simp⟩

theorem TrafficInv.stall (h : TrafficInv s) (hopen : s.LinkOpen) (r : Request) (i : StreamIx) :
    TrafficInv (s.stall r i) := by
  rw [State.stall_eq]
  exact (h.withPort hopen (by simp)).withBooks _

theorem TrafficInv.attempt (h : TrafficInv s) (hopen : s.LinkOpen) (r : Request) : TrafficInv (s.attempt r) := by
  obtain ⟨i, -, heq⟩ | ⟨k, i, hv, heq⟩ | ⟨i, hv, heq⟩ := s.attempt_cases r <;> rw [heq]
  · exact h.stall hopen r i
  · obtain ⟨hroom, ⟨rfl, rfl, -⟩ | ⟨rfl, -, hshape, -⟩⟩ := s.verdict_owe hv
    · exact h.admitOwed hopen hroom ⟨rfl, rfl⟩
    · obtain ⟨hlow, hhigh, -⟩ := malformed_eq_false_iff.mp hshape
      exact h.admitOwed hopen hroom ⟨rfl, hlow, hhigh⟩
  · obtain ⟨hroom, hshape, -, hlevels⟩ := s.verdict_admit hv
    exact h.admitWaiting hopen hroom hshape hlevels

theorem TrafficInv.retry (h : TrafficInv s) : TrafficInv s.retry := by
  obtain ⟨r, i, hport, heq⟩ | ⟨-, heq⟩ := s.retry_cases <;> rw [heq]
  · exact h.attempt (h.linkOpen_of_port (by simp [hport])) r
  · exact h

/-! ### The issue (R87 to R90) -/

theorem State.lowestFree_iff {i : SlotIx} :
    s.lowestFree = some i ↔ s.slots[i].use = .free ∧ ∀ j : SlotIx, j < i → s.slots[j].use ≠ .free := by
  have hfind : s.lowestFree = Fin.find? fun i : SlotIx => s.slots[i].isFree := by
    rw [Fin.find?_eq_find?_finRange]; rfl
  rw [hfind, Fin.find?_eq_some_iff]
  simp [Slot.isFree]

/-- The arbiter's choice is a WAITING entry of the list (R68, R88). -/
theorem State.chooseHead_waiting {e : PendingEntry} (h : s.chooseHead = some e) :
    e ∈ s.entries ∧ e.isWaiting = true := by
  obtain ⟨hmem, hhead, -⟩ := State.mem_readyHeads_iff.mp (State.mem_readyHeads_of_chooseHead h)
  have := List.find?_some hhead
  simp only [Bool.and_eq_true] at this
  exact ⟨hmem, this.1⟩

/-- A deadline T ahead of part time lies at most T ahead (R92). -/
theorem deadline_distance (now : Time) {T : Nat} (hT : T ≤ 1048575) :
    (now + BitVec.ofNat 32 T - now).toNat ≤ 1048575 := by
  rw [BitVec.add_comm, BitVec.add_sub_cancel, BitVec.toNat_ofNat]
  exact (Nat.mod_le ..).trans hT

theorem State.slotRequest_deadline (e : PendingEntry) (hT : s.timeout ≤ 1048575) (d : Time)
    (hd : (s.slotRequest e).deadline = some d) : (d - s.window.partTime).toNat ≤ 1048575 := by
  unfold State.slotRequest at hd
  dsimp only at hd
  split at hd
  · cases hd
  · cases hd
    exact deadline_distance _ hT

theorem TrafficInv.issueTo (h : TrafficInv s) {e : PendingEntry} {i : SlotIx} (he : e ∈ s.entries)
    (hwaiting : e.isWaiting = true) (hfree : s.slots[i].use = .free) : TrafficInv (s.issueTo e i) := by
  have hopen := h.linkOpen_of_not_quiet (.inl (List.ne_nil_of_mem he))
  obtain ⟨hl, hr, hc, hs, ht, -⟩ := trafficInv_iff.mp h
  obtain ⟨hlow, hhigh, -⟩ := (PendingEntry.wf_of_waiting hwaiting).mp (hl.wf e he)
  refine TrafficInv.retry (TrafficInv.emit ?_ _)
  refine trafficInv_iff.mpr ⟨hl.sublist (removeEntry_sublist ..), ?_, ?_, ?_, ht, State.LinkOpen.resetLaw ?_⟩
  · simp only [removeEntry_eq_erase he hl.distinct]
    exact (hr.eraseWaiting hwaiting hl.distinct.of_map).setSlot (Slot.inStage_of_free hfree _) rfl
  · exact hc.setSlot _ (Slot.inStage_of_free hfree _) (Slot.inStage_of_free hfree _)
  · exact hs.setSlot i
      ((Slot.wf_of_busy rfl _).mpr ⟨⟨hlow, hhigh⟩, by simp, fun _ => s.slotRequest_deadline e ht⟩)
  · exact hopen

/-! ### South responses (R95 to R100) -/

theorem TrafficInv.strayDrop (h : TrafficInv s) : TrafficInv s.strayDrop := (h.withSticky _).emit _

/-- An ORPHANED slot becomes FREE: no reference names it and it holds no candidate. -/
theorem TrafficInv.freeOrphan (h : TrafficInv s) {i : SlotIx} {q : SlotRequest}
    (hq : s.slots[i].use = .busy .orphaned q) : TrafficInv { s with slots := setAt s.slots i s.slots[i].freed } := by
  obtain ⟨hl, hr, hc, hs, ht, hreset⟩ := trafficInv_iff.mp h
  refine trafficInv_iff.mpr ⟨hl, hr.setSlot (Slot.inStage_of_busy hq _) rfl,
    hc.setSlot _ (Slot.inStage_of_busy hq _) (Slot.inStage_of_busy hq _), hs.setSlot i (Slot.wf_of_free rfl _),
    ht, ⟨hreset.port, fun hrst hnlrst => ?_⟩⟩
  obtain ⟨he, ho, hcand, hquiet⟩ := hreset.quiet hrst hnlrst
  refine ⟨he, ho, hcand, fun j => ?_⟩
  rw [setAt_fin]
  split
  · exact ⟨rfl, rfl⟩
  · exact hquiet j

theorem beatCheck_data {q : SlotRequest} {r : SouthResponse} (h : beatCheck q r = true) :
    r.data.length = if q.kind = .read then q.beats.toNat else 0 := by
  simp only [beatCheck, Bool.and_eq_true] at h
  obtain ⟨-, h⟩ := h
  cases hk : q.kind <;> simp [hk] at h ⊢ <;> exact h

theorem TrafficInv.holdCandidate (h : TrafficInv s) {i : SlotIx} {g : SlotStage} {q : SlotRequest}
    (hq : s.slots[i].use = .busy g q) (hg : g ≠ .orphaned) (r : SouthResponse) :
    TrafficInv { s with
      candidate := some { slot := i, ok := beatCheck q r, data := if beatCheck q r then r.data else [] } } := by
  have hstage : s.slots[i].inStage .issued = true ∨ s.slots[i].inStage .timedOut = true := by
    rw [Slot.inStage_of_busy hq, Slot.inStage_of_busy hq]
    cases g <;> simp at hg ⊢
  have hopen := h.linkOpen_of_not_quiet (.inr (.inr (.inr ⟨i, hstage⟩)))
  obtain ⟨hl, hr, -, hs, ht, -⟩ := trafficInv_iff.mp h
  refine trafficInv_iff.mpr ⟨hl, hr, ⟨?_, ?_⟩, hs, ht, State.LinkOpen.resetLaw ?_⟩
  · rintro c ⟨⟩
    exact hstage
  · rintro c g' q' ⟨⟩ hq'
    obtain ⟨rfl, rfl⟩ : g = g' ∧ q = q' := by simpa using hq.symm.trans hq'
    cases hcheck : beatCheck q r with
    | true => simpa using beatCheck_data hcheck
    | false => simp
  · exact hopen

theorem TrafficInv.intake (h : TrafficInv s) (r : SouthResponse) : TrafficInv (s.intake r) := by
  unfold State.intake
  dsimp only
  split
  · exact h.strayDrop
  · next stage q hq =>
    split
    · exact h.strayDrop
    · cases stage with
      | orphaned => exact (h.freeOrphan hq).emit _
      | issued => exact TrafficInv.holdCandidate h.settleSample hq (by simp) r
      | timedOut => exact TrafficInv.holdCandidate h.settleSample hq (by simp) r

/-! ### North replies (R98, R99, R112 to R117) -/

theorem State.northChoice_some {cls : ReplyClass} (h : s.northChoice = some cls) : s.rst = false ∧ s.nlrst = false := by
  unfold State.northChoice at h
  split at h
  · cases h
  · next hreset => simpa using hreset

theorem TrafficInv.forward (h : TrafficInv s) (hnlrst : s.nlrst = false) {c : Candidate}
    {g : SlotStage} {q : SlotRequest} (hq : s.slots[c.slot].use = .busy g q) : TrafficInv (s.forward c g q) := by
  have hopen := h.linkOpen_of_nlrst hnlrst
  obtain ⟨hl, hr, -, hs, ht, -⟩ := trafficInv_iff.mp h
  refine TrafficInv.handSample (TrafficInv.emit (TrafficInv.withSticky (TrafficInv.northTake ?_ _ _) _) _) _
  refine trafficInv_iff.mpr ⟨hl, ?_, CandidateLaw.of_none _, hs.setSlot c.slot (Slot.wf_of_free rfl _), ht,
    State.LinkOpen.resetLaw ?_⟩
  · split
    · exact hr.eraseSlot rfl
    · next hg =>
      refine hr.setSlot ?_ rfl
      rw [Slot.inStage_of_busy hq]
      simpa using hg
  · exact hopen

/-- The slot at the head of the reply order list becomes ORPHANED and its reference leaves; a candidate held for it
would remain without a slot, and is looked at next. -/
theorem TrafficInv.orphanHead (h : TrafficInv s) (hnlrst : s.nlrst = false) {i : SlotIx} {q : SlotRequest}
    (hhead : s.replyOrder.head? = some (.slot i)) (hq : s.slots[i].use = .busy .timedOut q)
    {candidate : Option Candidate} (hcandidate : candidate = none ∨ candidate = s.candidate ∧ ∀ c, candidate = some c → c.slot ≠ i)
    {t : Slot} (ht : t.use = .busy .orphaned q ∨ t.use = .free) :
    TrafficInv { s with slots := setAt s.slots i t, replyOrder := s.replyOrder.tail, candidate := candidate } := by
  have hopen := h.linkOpen_of_nlrst hnlrst
  obtain ⟨hl, hr, hc, hs, hT, -⟩ := trafficInv_iff.mp h
  have htail : s.replyOrder.tail = s.replyOrder.erase (.slot i) := by
    obtain ⟨refs, hrefs⟩ := List.head?_eq_some_iff.mp hhead
    rw [hrefs, List.tail_cons, List.erase_cons_head]
  have hstage : t.inStage .timedOut = false := by
    obtain ht | ht := ht
    · exact Slot.inStage_of_busy ht _
    · exact Slot.inStage_of_free ht _
  refine trafficInv_iff.mpr ⟨hl, ?_, ?_, hs.setSlot i ?_, hT, State.LinkOpen.resetLaw ?_⟩
  · simp only [htail]
    exact hr.eraseSlot hstage
  · obtain rfl | ⟨rfl, hne⟩ := hcandidate
    · exact .of_none _
    · exact hc.congr fun c hc' g q' hq' hg => ⟨g, hg, by rwa [setAt_fin_ne _ _ (hne c hc').symm]⟩
  · have hold := (Slot.wf_of_busy hq _).mp (hs.wf i)
    obtain ht | ht := ht
    · exact (Slot.wf_of_busy ht _).mpr ⟨hold.1, by simp, by simp⟩
    · exact Slot.wf_of_free ht _
  · exact hopen

/-- A candidate at a slot just orphaned is dropped with a LATE notice; no other candidate is touched (R97, R99). -/
theorem State.redropCandidate_of_orphaned {c : Candidate} {q : SlotRequest} (hc : s.candidate = some c)
    (hq : s.slots[c.slot].use = .busy .orphaned q) :
    s.redropCandidate =
      ({ s with candidate := none, slots := setAt s.slots c.slot s.slots[c.slot].freed }, [s.lateNotice q]) := by
  simp only [State.redropCandidate, hc, Slot.orphan, hq]

theorem setAt_setAt {α : Type} {n : Nat} (v : Vector α n) (i : Fin n) (x y : α) :
    setAt (setAt v i x) i y = setAt v i y := by
  ext j hj
  simp only [setAt_getElem]
  split <;> rfl

/-- The take of a TIMEOUT reply, with the candidate of the slot and without (R97, R99, R117). -/
theorem State.timeOut_of_candidate {c : Candidate} {q : SlotRequest} (hc : s.candidate = some c)
    (hq : s.slots[c.slot].use = .busy .timedOut q) :
    s.timeOut c.slot q =
      ((({ s with
          slots := setAt s.slots c.slot { generation := s.slots[c.slot].generation, use := .free }
          replyOrder := s.replyOrder.tail
          candidate := none } : State).northTake .synthesized
            { source := q.source, tag := q.northTag, status := .timeout, data := [] }).withSticky
        fun k => { k with timeout := true }).emit [timeoutNotice q, s.lateNotice q] := by
  have hheld : s.candidate.map Candidate.slot = some c.slot := by rw [hc]; rfl
  unfold State.timeOut
  dsimp only
  rw [if_pos hheld, State.redropCandidate_of_orphaned (c := c) (q := q)]
  · simp only [Slot.toStage_of_busy hq, State.withSticky, State.northTake, setAt_setAt, setAt_fin_self, Slot.freed]
    rfl
  · exact hc
  · exact (congrArg Slot.use (setAt_fin_self ..)).trans (Slot.toStage_use hq _)

theorem State.timeOut_of_other {i : SlotIx} {q : SlotRequest} (hc : ∀ c, s.candidate = some c → c.slot ≠ i)
    (hq : s.slots[i].use = .busy .timedOut q) :
    s.timeOut i q =
      ((({ s with
          slots := setAt s.slots i { generation := s.slots[i].generation, use := .busy .orphaned q }
          replyOrder := s.replyOrder.tail } : State).northTake .synthesized
            { source := q.source, tag := q.northTag, status := .timeout, data := [] }).withSticky
        fun k => { k with timeout := true }).emit [timeoutNotice q] := by
  have hother : s.candidate.map Candidate.slot ≠ some i := by
    intro heq
    obtain ⟨c, hc', rfl⟩ := Option.map_eq_some_iff.mp heq
    exact hc c hc' rfl
  unfold State.timeOut
  rw [Slot.toStage_of_busy hq]
  exact if_neg hother

theorem TrafficInv.timeOut (h : TrafficInv s) (hnlrst : s.nlrst = false) {i : SlotIx} {q : SlotRequest}
    (hhead : s.replyOrder.head? = some (.slot i)) (hq : s.slots[i].use = .busy .timedOut q) :
    TrafficInv (s.timeOut i q) := by
  by_cases hc : ∃ c, s.candidate = some c ∧ c.slot = i
  · obtain ⟨c, hc, rfl⟩ := hc
    rw [State.timeOut_of_candidate hc hq]
    exact (((h.orphanHead hnlrst hhead hq (.inl rfl) (.inr rfl)).northTake _ _).withSticky _).emit _
  · have hother : ∀ c, s.candidate = some c → c.slot ≠ i := fun c hc' heq => hc ⟨c, hc', heq⟩
    rw [State.timeOut_of_other hother hq]
    exact (((h.orphanHead hnlrst hhead hq (.inr ⟨rfl, hother⟩) (.inl rfl)).northTake _ _).withSticky _).emit _

theorem TrafficInv.sendOwed (h : TrafficInv s) (hnlrst : s.nlrst = false) {e : PendingEntry} {k : ReplyKind}
    (hhead : s.replyOrder.head? = some (.entry e.id)) (he : e ∈ s.entries) : TrafficInv (s.sendOwed e k) := by
  have hopen := h.linkOpen_of_nlrst hnlrst
  obtain ⟨hl, hr, hc, hs, ht, -⟩ := trafficInv_iff.mp h
  obtain ⟨refs, hrefs⟩ := List.head?_eq_some_iff.mp hhead
  refine TrafficInv.retry (TrafficInv.northTake ?_ _ _)
  refine trafficInv_iff.mpr ⟨hl.sublist (removeEntry_sublist ..), ?_, hc, hs, ht, State.LinkOpen.resetLaw ?_⟩
  · have herased : RefLaw refs (s.entries.erase e) s.slots := (hrefs ▸ hr).eraseOwed he hl.distinct
    show RefLaw s.replyOrder.tail (removeEntry e.id s.entries) s.slots
    rwa [hrefs, List.tail_cons, removeEntry_eq_erase he hl.distinct]
  · exact hopen

/-! ### Time (R33, R93) -/

theorem TrafficInv.expire (h : TrafficInv s) : TrafficInv s.expire := by
  obtain ⟨hl, hr, hc, hs, ht, hreset⟩ := trafficInv_iff.mp h
  have hstill : ∀ i : SlotIx, i ∉ s.expiring → s.slots[i].expired s.window.partTime = s.slots[i] := fun i hi =>
    Slot.expired_of_not (Bool.eq_false_of_not_eq_true fun he => hi (State.mem_expiring.mpr he))
  have hdue : ∀ i : SlotIx, i ∈ s.expiring → ∃ q, s.slots[i].use = .busy .issued q ∧ q.deadline = some s.window.partTime ∧
      (s.slots[i].expired s.window.partTime).use = .busy .timedOut q := by
    intro i hi
    have hexp := State.mem_expiring.mp hi
    obtain ⟨q, hq, hd⟩ := Slot.expiresAt_iff.mp hexp
    exact ⟨q, hq, hd, by rw [Slot.expired_of_expires hexp hq]⟩
  refine trafficInv_iff.mpr ⟨?_, ?_, ?_, ⟨fun i => ?_⟩, ?_, ?_⟩
  · simpa using hl
  · rw [State.expire_replyOrder, State.expire_entries, State.expire_slots]
    refine hr.expire s.expiring_nodup (fun i hi => ?_) fun i => ?_
    · obtain ⟨q, hq, -⟩ := hdue i hi
      exact Slot.inStage_of_busy hq _
    · rw [mapAll_fin]
      by_cases hi : i ∈ s.expiring
      · obtain ⟨q, -, -, hnew⟩ := hdue i hi
        exact ⟨fun _ => .inr hi, fun _ => Slot.inStage_of_busy hnew _⟩
      · simp [hstill i hi, hi, -Fin.getElem_fin]
  · rw [State.expire_candidate, State.expire_slots]
    refine hc.congr fun c _ g q hq hg => ?_
    rw [mapAll_fin]
    by_cases hi : c.slot ∈ s.expiring
    · obtain ⟨q', hq', -, hnew⟩ := hdue _ hi
      rw [hq] at hq'
      cases hq'
      exact ⟨.timedOut, by simp, hnew⟩
    · exact ⟨g, hg, by rw [hstill _ hi, hq]⟩
  · rw [State.expire_slots, State.expire_window, mapAll_fin]
    by_cases hi : i ∈ s.expiring
    · obtain ⟨q, hq, hd, hnew⟩ := hdue i hi
      have hold := (Slot.wf_of_busy hq _).mp (hs.wf i)
      exact (Slot.wf_of_busy hnew _).mpr ⟨hold.1, by simp [hd], by simp⟩
    · rw [hstill i hi]
      exact hs.wf i
  · simpa using ht
  · refine ⟨by simpa using hreset.port, fun hrst hnlrst => ?_⟩
    rw [State.expire_rst] at hrst
    rw [State.expire_nlrst] at hnlrst
    obtain ⟨he, ho, hcand, hquiet⟩ := hreset.quiet hrst hnlrst
    have hnone : ∀ i : SlotIx, i ∉ s.expiring := fun i hi => by
      obtain ⟨q, hq, -⟩ := hdue i hi
      have := (hquiet i).1
      rw [Slot.inStage_of_busy hq] at this
      cases this
    refine ⟨by simpa using he, ?_, by simpa using hcand, fun i => ?_⟩
    · rw [State.expire_replyOrder, ho, List.eq_nil_iff_forall_not_mem.mpr hnone]
      rfl
    · rw [State.expire_slots, mapAll_fin, hstill i (hnone i)]
      exact hquiet i

/-- After expiry no ISSUED slot's deadline is part time. -/
theorem State.expire_not_due (s : State) {i : SlotIx} {q : SlotRequest} (hq : s.expire.slots[i].use = .busy .issued q) :
    s.slots[i].use = .busy .issued q ∧ q.deadline ≠ some s.window.partTime := by
  rw [State.expire_slots, mapAll_fin] at hq
  cases hexp : s.slots[i].expiresAt s.window.partTime with
  | true =>
    obtain ⟨q', hq', -⟩ := Slot.expiresAt_iff.mp hexp
    rw [Slot.expired_of_expires hexp hq'] at hq
    cases hq
  | false =>
    rw [Slot.expired_of_not hexp] at hq
    refine ⟨hq, fun hd => ?_⟩
    rw [Slot.expiresAt_iff.mpr ⟨q, hq, hd⟩] at hexp
    cases hexp

/-- A deadline that has not come is no farther ahead after a microtick. -/
theorem deadline_after_microtick {d now : Time} (hne : d ≠ now) (hle : (d - now).toNat ≤ 1048575) :
    (d - (now + 1)).toNat ≤ 1048575 := by
  bv_omega

/-- Part time advances past the deadlines that have been met (R33, R93). -/
theorem TrafficInv.tick (h : TrafficInv s)
    (hmet : ∀ (i : SlotIx) (q : SlotRequest), s.slots[i].use = .busy .issued q → q.deadline ≠ some s.window.partTime) :
    TrafficInv (s.withWindow s.window.tick) := by
  obtain ⟨hl, hr, hc, hs, ht, hreset⟩ := trafficInv_iff.mp h
  refine trafficInv_iff.mpr ⟨hl, hr, hc, ⟨fun i => ?_⟩, ht, ⟨hreset.port, hreset.quiet⟩⟩
  show s.slots[i].wf (s.window.partTime + 1)
  cases hu : s.slots[i].use with
  | free => exact Slot.wf_of_free hu _
  | busy g q =>
    obtain ⟨hbeats, hdeadline, hissued⟩ := (Slot.wf_of_busy hu _).mp (hs.wf i)
    refine (Slot.wf_of_busy hu _).mpr ⟨hbeats, hdeadline, ?_⟩
    rintro rfl d hd
    exact deadline_after_microtick (fun heq => hmet i q hu (heq ▸ hd)) (hissued rfl d hd)

theorem TrafficInv.takeDueStart (h : TrafficInv s) : TrafficInv s.takeDueStart := by
  obtain ⟨-, -, heq⟩ | ⟨-, heq⟩ := s.takeDueStart_cases <;> rw [heq]
  · exact TrafficInv.windowStart (h.withWindow (w := { s.window with startDue := false }) rfl)
  · exact h

theorem TrafficInv.microtick (h : TrafficInv s) : TrafficInv (s.settle.withWindow s.settle.window.tick) := by
  have hsettled : TrafficInv s.settle :=
    (h.takeDueStart.withWindow (w := { s.takeDueStart.window with phaseOpen := s.takeDueStart.window.settledPhases })
      rfl).expire
  refine hsettled.tick fun i q hq => ?_
  have := (State.expire_not_due _ hq).2
  simpa [State.settle] using this

/-! ### Resets (R14, R15, R83, R103, R118) -/

theorem Slot.orphaned_of_busy {t : Slot} {g : SlotStage} {q : SlotRequest} (h : t.use = .busy g q) :
    t.orphaned = { generation := t.generation, use := .busy .orphaned q } :=
  Slot.toStage_of_busy h _

theorem Slot.orphaned_of_free {t : Slot} (h : t.use = .free) : t.orphaned = t := Slot.toStage_of_free h _

theorem Slot.orphaned_quiet (t : Slot) : t.orphaned.inStage .issued = false ∧ t.orphaned.inStage .timedOut = false := by
  cases hu : t.use with
  | free => rw [Slot.orphaned_of_free hu]; exact ⟨Slot.inStage_of_free hu _, Slot.inStage_of_free hu _⟩
  | busy g q => rw [Slot.orphaned_of_busy hu]; exact ⟨rfl, rfl⟩

theorem Slot.orphaned_wf {t : Slot} {now : Time} (h : t.wf now) : t.orphaned.wf now := by
  cases hu : t.use with
  | free => rwa [Slot.orphaned_of_free hu]
  | busy g q =>
    rw [Slot.orphaned_of_busy hu]
    exact (Slot.wf_of_busy rfl now).mpr ⟨((Slot.wf_of_busy hu now).mp h).1, by simp, by simp⟩

theorem SlotLaw.orphaned {slots : Vector Slot 64} {now : Time} (h : SlotLaw slots now) :
    SlotLaw (mapAll Slot.orphaned slots) now := by
  refine ⟨fun i => ?_⟩
  have hi := Slot.orphaned_wf (h.wf i)
  rwa [← mapAll_fin Slot.orphaned] at hi

/-- The part at an assertion of NLRST_N, before a held candidate is looked at again (R14). -/
def State.linkEmptied (s : State) : State :=
  ({ s.settleSample with
      nlrst := true
      port := .linkReset
      entries := []
      replyOrder := []
      lastServed := .synthesized
      slots := mapAll Slot.orphaned s.slots } : State).withSticky fun k => { k with linkReset := true }

theorem State.linkEmptied_slots : s.linkEmptied.slots = mapAll Slot.orphaned s.slots := rfl

theorem State.linkEmptied_window : s.linkEmptied.window = s.window := by simp [State.linkEmptied]

theorem State.linkReset_eq : s.linkReset = s.linkEmptied.redropCandidate.1.emit s.linkEmptied.redropCandidate.2 := rfl

theorem State.linkReset_of_none (hc : s.candidate = none) : s.linkReset = s.linkEmptied := by
  have hredrop : s.linkEmptied.redropCandidate = (s.linkEmptied, []) := by
    simp only [State.redropCandidate, show s.linkEmptied.candidate = none from hc]
  rw [State.linkReset_eq, hredrop, State.emit_nil]

theorem State.linkReset_of_candidate {c : Candidate} {g : SlotStage} {q : SlotRequest} (hc : s.candidate = some c)
    (hq : s.slots[c.slot].use = .busy g q) :
    s.linkReset =
      ({ s.linkEmptied with
          candidate := none
          slots := setAt s.linkEmptied.slots c.slot { generation := s.slots[c.slot].generation, use := .free } } :
        State).emit [s.lateNotice q] := by
  have hslot : s.linkEmptied.slots[c.slot] = { generation := s.slots[c.slot].generation, use := .busy .orphaned q } :=
    (mapAll_fin ..).trans (Slot.orphaned_of_busy hq)
  rw [State.linkReset_eq, State.redropCandidate_of_orphaned (s := s.linkEmptied) hc (congrArg Slot.use hslot), hslot]
  rfl

/-- With nothing waiting and no slot ISSUED or TIMED_OUT, a link reset keeps the laws. -/
theorem TrafficInv.of_quiet {t : State} (hentries : t.entries = []) (hrefs : t.replyOrder = [])
    (hcandidate : t.candidate = none) (htimeout : t.timeout ≤ 1048575) (hport : t.port = .linkReset)
    (hnlrst : t.nlrst = true)
    (hquiet : ∀ i : SlotIx, t.slots[i].inStage .issued = false ∧ t.slots[i].inStage .timedOut = false)
    (hwf : SlotLaw t.slots t.window.partTime) : TrafficInv t := by
  refine trafficInv_iff.mpr ⟨?_, ?_, ?_, hwf, htimeout, ⟨fun _ => by simp [hport, hnlrst], fun _ _ =>
    ⟨hentries, hrefs, hcandidate, hquiet⟩⟩⟩
  · rw [hentries]; exact .nil _
  · rw [hentries, hrefs]; exact .nil fun i => (hquiet i).2
  · rw [hcandidate]; exact .of_none _

theorem TrafficInv.linkReset (h : TrafficInv s) : TrafficInv s.linkReset := by
  have hquiet : ∀ i : SlotIx, s.linkEmptied.slots[i].inStage .issued = false ∧
      s.linkEmptied.slots[i].inStage .timedOut = false := fun i => by
    rw [State.linkEmptied_slots, mapAll_fin]; exact Slot.orphaned_quiet _
  have hwf : SlotLaw s.linkEmptied.slots s.linkEmptied.window.partTime := by
    rw [State.linkEmptied_slots, State.linkEmptied_window]
    exact SlotLaw.orphaned ⟨h.slotsWf⟩
  cases hc : s.candidate with
  | none =>
    rw [State.linkReset_of_none hc]
    exact .of_quiet rfl rfl hc h.timeoutBound rfl rfl hquiet hwf
  | some c =>
    have hbusy : ∃ g q, s.slots[c.slot].use = .busy g q := by
      obtain hi | ht := h.candidateSlot c hc
      · exact ⟨_, Slot.inStage_iff.mp hi⟩
      · exact ⟨_, Slot.inStage_iff.mp ht⟩
    obtain ⟨g, q, hq⟩ := hbusy
    rw [State.linkReset_of_candidate hc hq]
    refine TrafficInv.emit ?_ _
    refine .of_quiet rfl rfl rfl h.timeoutBound rfl rfl (fun i => ?_) ?_
    · show (setAt s.linkEmptied.slots c.slot _)[i].inStage _ = _ ∧ _
      rw [setAt_fin]
      split
      · exact ⟨rfl, rfl⟩
      · exact hquiet i
    · dsimp only
      exact hwf.setSlot _ (Slot.wf_of_free rfl _)

/-- While RST_N is asserted the port and NLRST_N are free of each other (R15). -/
theorem ResetLaw.of_rst (h : s.rst = true) : ResetLaw s :=
  ⟨by simp [h], by simp [h]⟩

theorem TrafficInv.underRst (h : TrafficInv s) {t : State} (hrst : t.rst = true) (hentries : t.entries = s.entries)
    (hnext : t.nextId = s.nextId) (hrefs : t.replyOrder = s.replyOrder) (hslots : t.slots = s.slots)
    (hcandidate : t.candidate = s.candidate) (htime : t.window.partTime = s.window.partTime)
    (htimeout : t.timeout = s.timeout) : TrafficInv t := by
  obtain ⟨hl, hr, hc, hs, ht, -⟩ := trafficInv_iff.mp h
  refine trafficInv_iff.mpr ⟨?_, ?_, ?_, ?_, ?_, .of_rst hrst⟩
  · rwa [hentries, hnext]
  · rwa [hrefs, hentries, hslots]
  · rwa [hcandidate, hslots]
  · rwa [hslots, htime]
  · rwa [htimeout]

/-- The release of NLRST_N: the port accepts, and the part has been quiet (R14). -/
theorem TrafficInv.linkReleased (h : TrafficInv s) : TrafficInv { s.settleSample with nlrst := false, port := .accepting } := by
  obtain ⟨hl, hr, hc, hs, ht, -⟩ := trafficInv_iff.mp h
  exact trafficInv_iff.mpr ⟨hl, hr, hc, hs, ht, State.LinkOpen.resetLaw fun _ => ⟨rfl, by simp⟩⟩

theorem reset_slot (i : SlotIx) : State.reset.slots[i] = { generation := 0, use := .free } := by
  simp [State.reset]

/-- The values of the release of RST_N keep the laws, for both levels of NLRST_N (R5, R15). -/
theorem TrafficInv.of_reset {t : State} (hentries : t.entries = []) (hrefs : t.replyOrder = [])
    (hslots : t.slots = State.reset.slots) (hcandidate : t.candidate = none) (htimeout : t.timeout = 0)
    (hport : t.port = t.portAfterReset) : TrafficInv t := by
  have hfree : ∀ (i : SlotIx) (g : SlotStage), t.slots[i].inStage g = false := fun i g => by
    rw [hslots, reset_slot]; rfl
  refine trafficInv_iff.mpr ⟨?_, ?_, ?_, ⟨fun i => ?_⟩, by omega, ⟨fun _ => ?_, fun _ _ => ?_⟩⟩
  · rw [hentries]; exact .nil _
  · rw [hentries, hrefs]; exact .nil fun i => hfree i _
  · rw [hcandidate]; exact .of_none _
  · refine Slot.wf_of_free ?_ _
    rw [hslots, reset_slot]
  · rw [hport, State.portAfterReset]
    cases t.nlrst <;> simp
  · exact ⟨hentries, hrefs, hcandidate, fun i => ⟨hfree i _, hfree i _⟩⟩

theorem TrafficInv.powerOn (s : State) : TrafficInv s.powerOn := .of_reset rfl rfl rfl rfl rfl rfl

theorem TrafficInv.softReset (s : State) : TrafficInv s.softReset := .of_reset rfl rfl rfl rfl rfl rfl

/-! ### Commands -/

theorem TrafficInv.purge (h : TrafficInv s) (i : StreamIx) : TrafficInv (s.purge i) := by
  obtain ⟨hl, hr, hc, hs, ht, hreset⟩ := trafficInv_iff.mp h
  refine TrafficInv.emit ?_ _
  refine trafficInv_iff.mpr ⟨hl.purge i, hr.purge hl.distinct i, hc, hs, ht, ⟨hreset.port, fun hrst hnlrst => ?_⟩⟩
  obtain ⟨he, ho, hcand, hquiet⟩ := hreset.quiet hrst hnlrst
  refine ⟨?_, ?_, hcand, hquiet⟩
  · simp [he]
  · simp [he, ho, State.waitingOf]

theorem TrafficInv.reclaim (h : TrafficInv s) {v : Vector Slot 64}
    (hv : ∀ i : SlotIx, v[i] = s.slots[i] ∨ (s.slots[i].inStage .orphaned = true ∧ v[i] = s.slots[i].freed)) :
    TrafficInv { s with slots := v } := by
  obtain ⟨hl, hr, hc, hs, ht, hreset⟩ := trafficInv_iff.mp h
  have hstage : ∀ (i : SlotIx) (g : SlotStage), g ≠ .orphaned → v[i].inStage g = s.slots[i].inStage g := by
    intro i g hg
    obtain heq | ⟨ho, heq⟩ := hv i
    · rw [heq]
    · obtain ⟨q, hq⟩ := Slot.inStage_iff.mp ho
      rw [heq, Slot.inStage_of_free rfl, Slot.inStage_of_busy hq]
      cases g <;> simp at hg ⊢
  refine trafficInv_iff.mpr ⟨hl, hr.congr_slots fun i => hstage i _ (by simp), hc.congr fun c _ g q hq hg => ?_,
    ⟨fun i => ?_⟩, ht, ⟨hreset.port, fun hrst hnlrst => ?_⟩⟩
  · obtain heq | ⟨ho, -⟩ := hv c.slot
    · exact ⟨g, hg, by rw [heq, hq]⟩
    · rw [Slot.inStage_of_busy hq] at ho
      exact absurd (by simpa using ho) hg
  · obtain heq | ⟨-, heq⟩ := hv i
    · rw [heq]; exact hs.wf i
    · rw [heq]; exact Slot.wf_of_free rfl _
  · obtain ⟨he, ho, hcand, hquiet⟩ := hreset.quiet hrst hnlrst
    refine ⟨he, ho, hcand, fun i => ?_⟩
    rw [hstage i _ (by simp), hstage i _ (by simp)]
    exact hquiet i

theorem TrafficInv.withTimeout (h : TrafficInv s) {v : Nat} (hv : v ≤ 1048575) : TrafficInv { s with timeout := v } := by
  obtain ⟨hl, hr, hc, hs, -, hreset⟩ := trafficInv_iff.mp h
  exact trafficInv_iff.mpr ⟨hl, hr, hc, hs, hv, ⟨hreset.port, hreset.quiet⟩⟩

theorem WindowGen.Set.partTime {w w' : WindowGen} (h : w.Set w') : w'.partTime = w.partTime := by
  cases h with
  | prescaler | staged => rfl
  | stop => unfold WindowGen.stop; split <;> rfl

/-- The owner of a command keeps the laws of the traffic. -/
theorem TrafficInv.served (h : TrafficInv s) {r : Reply} (hr : Served s r) : TrafficInv r.state := by
  cases hr
  case turnedAway | shown => exact h
  case softReset => exact TrafficInv.softReset s
  case window w hset => exact h.withWindow hset.partTime
  case windowStart => exact h.windowStart
  case timeout v hrange => exact h.withTimeout hrange
  case reclaim v d hlen hslots => exact h.reclaim hslots
  case streamWrite => exact TrafficInv.retry (h.withStreams _)
  case streamDelete => exact TrafficInv.retry (h.withStreams _)
  case paused => exact h.withStreams _
  case purge i d hlen => exact (h.purge i).retry
  case captureNow => exact h.withBooks _
  case acknowledged => exact h.withSticky _
  all_goals exact h.of_same ⟨rfl, rfl, rfl, rfl, rfl, rfl, rfl, rfl, rfl, rfl⟩

theorem TrafficInv.deselect (h : TrafficInv s) : TrafficInv s.deselect :=
  h.of_same ⟨rfl, rfl, rfl, rfl, rfl, rfl, rfl, rfl, rfl, rfl⟩

theorem TrafficInv.answered (h : TrafficInv s) (code : Byte) (st : Status) (d : List Byte) :
    TrafficInv (s.answered code st d) :=
  h.of_same ⟨rfl, rfl, rfl, rfl, rfl, rfl, rfl, rfl, rfl, rfl⟩

theorem TrafficInv.drawOrder (h : TrafficInv s) : TrafficInv s.drawOrder :=
  h.of_same ⟨rfl, rfl, rfl, rfl, rfl, rfl, rfl, rfl, rfl, rfl⟩

theorem TrafficInv.runCommand (h : TrafficInv s) {code : Byte} {owner : State → Reply}
    (howner : ∀ t, Served t (owner t)) : TrafficInv (s.runCommand code owner) := by
  have hserve : ∀ u : State, TrafficInv u → TrafficInv (u.serve code owner) := fun u hu =>
    (hu.served (howner u)).answered ..
  obtain ⟨-, heq⟩ | ⟨-, heq⟩ | ⟨r, -, -, heq | heq⟩ := s.runCommand_cases code owner <;> rw [heq]
  · exact h.deselect
  · exact hserve _ h.settleSample
  · exact (hserve _ h.drawOrder).sample r
  · exact hserve _ (h.drawOrder.sample r)

/-! ### Every command -/

theorem TrafficInv.exec_command (h : TrafficInv s) {c : Instr} (hc : isCommand c = true) {t : State}
    (ht : exec c s = .next t) : TrafficInv t := by
  obtain ⟨code, owner, hexec, howner⟩ := hasOwner_of_isCommand hc
  rw [hexec] at ht
  cases ht
  exact h.runCommand howner

theorem TrafficInv.exec_frameError (h : TrafficInv s) {bits : List Bool} {t : State}
    (ht : exec (.frameError bits) s = .next t) : TrafficInv t := by
  replace ht : execFrameError bits s = .next t := ht
  obtain ⟨-, heq⟩ | ⟨-, -, heq | ⟨code, e, heq⟩ | ⟨c, hc, heq⟩⟩ := execFrameError_cases bits s <;> rw [heq] at ht
  · cases ht; exact h.deselect
  · cases ht; exact h.settleSample.deselect
  · cases ht; exact (h.settleSample.withSticky _).answered ..
  · exact h.exec_command hc ht

theorem TrafficInv.exec_event (h : TrafficInv s) {c : Instr} (hc : isCommand c = false) {t : State}
    (ht : exec c s = .next t) : TrafficInv t := by
  cases c
  case frameError bits => exact h.exec_frameError ht
  all_goals try cases hc
  all_goals cases ht
  case arrival m =>
    split
    · exact h
    · split
      · next hport => exact h.attempt (h.linkOpen_of_port (by simp [hport])) _
      · exact h
  case issue =>
    split
    · exact h
    · split
      · next e i hhead hslot =>
        obtain ⟨he, hwaiting⟩ := State.chooseHead_waiting hhead
        exact h.issueTo he hwaiting (State.lowestFree_iff.mp hslot).1
      · exact h
  case southResponseIntake m =>
    split
    · exact h
    · exact h.intake _
  case forwarding =>
    split
    · next c hchoice _ =>
      split
      · next g q hq => exact h.forward (State.northChoice_some hchoice).2 hq
      · exact h
    · exact h
  case timeoutReply =>
    split
    · next i hchoice hhead =>
      split
      · next q hq => exact h.timeOut (State.northChoice_some hchoice).2 hhead hq
      · exact h
    · exact h
  case owedReply =>
    split
    · next id hchoice hhead =>
      split
      · next e hfind =>
        obtain rfl : e.id = id := by simpa using List.find?_some hfind
        split
        · exact h.sendOwed (State.northChoice_some hchoice).2 hhead (List.mem_of_find?_eq_some hfind)
        · exact h
      · exact h
    · exact h
  case microtick =>
    split
    · exact h
    · exact h.settleSample.microtick
  case expiry =>
    split
    · exact h
    · exact h.settleSample.expire
  case windowStartEvent =>
    split
    · exact h
    · exact h.takeDueStart
  case phaseOpen ch | phaseClose ch =>
    split
    · exact h.of_same ⟨rfl, rfl, rfl, rfl, rfl, rfl, rfl, rfl, rfl, rfl⟩
    · exact h
  case nlrstAssert =>
    split
    · exact h
    · split
      · next hrst => exact h.underRst hrst rfl rfl rfl rfl rfl rfl rfl
      · exact h.linkReset
  case nlrstRelease =>
    split
    · exact h
    · split
      · next hrst => exact h.underRst hrst rfl rfl rfl rfl rfl rfl rfl
      · exact h.linkReleased
  case rstAssert =>
    split
    · exact h
    · exact h.underRst rfl rfl rfl rfl rfl rfl rfl rfl
  case rstRelease =>
    split
    · exact .powerOn _
    · exact h
  case frameIgnored | nop => exact h.settleSample.deselect
  case selFallingEdge =>
    split
    · exact h
    · split <;> exact h.of_same ⟨rfl, rfl, rfl, rfl, rfl, rfl, rfl, rfl, rfl, rfl⟩

theorem TrafficInv.exec (h : TrafficInv s) {c : Instr} {t : State} (ht : exec c s = .next t) : TrafficInv t := by
  cases hc : isCommand c with
  | true => exact h.exec_command hc ht
  | false => exact h.exec_event hc ht

/-- Everything that a step can do: idle, or run the front command with the rest left in the queue. -/
theorem step_cases {t : State} (h : step s = .next t) :
    t = s ∨ ∃ c rest, s.pending = c :: rest ∧ Machine.exec c { s with pending := rest } = .next t := by
  unfold step at h
  split at h
  · cases h
    exact .inl rfl
  · next c rest hpending => exact .inr ⟨c, rest, hpending, h⟩

end Sys2Proof.Machine

namespace Sys2Proof

/-- Settles O57: the queue is none of the laws' concern, and every command keeps them. -/
theorem stepKeepsTrafficLaws : Obligations.StepKeepsTrafficLaws := by
  unfold Obligations.StepKeepsTrafficLaws
  intro s t h hstep
  obtain rfl | ⟨c, rest, -, hexec⟩ := Machine.step_cases hstep
  · exact h
  · have hqueue : Machine.TrafficInv { s with pending := rest } :=
      h.of_same ⟨rfl, rfl, rfl, rfl, rfl, rfl, rfl, rfl, rfl, rfl⟩
    exact hqueue.exec hexec

end Sys2Proof
end

section
/-! Every step keeps the laws of the stream table (R16, R17, R49, R172): the entry of one stream under each operation,
the stream of a request, and the commands one after another. -/

namespace Sys2Proof.Machine

/-! ### One stream entry -/

theorem Regulation.reset_wf : Regulation.reset.wf := by
  simp [Regulation.wf, Regulation.reset]

theorem StreamEntry.reset_wf (valid : Bool) : (StreamEntry.reset valid).wf := by
  simp [StreamEntry.wf, StreamEntry.reset, Regulation.reset_wf]

theorem StreamEntry.windowStart_of_valid {e : StreamEntry} (h : e.valid = true) :
    e.windowStart =
      { e with
        active := e.staged
        balance :=
          if e.staged.budgetEnable then min (min e.balance e.staged.ceiling + e.staged.allotment) e.staged.ceiling
          else min e.balance e.staged.ceiling } :=
  if_pos h

theorem StreamEntry.windowStart_of_not_valid {e : StreamEntry} (h : e.valid = false) : e.windowStart = e :=
  if_neg (by simp [h])

/-- A window start clamps to the ceiling it makes active and replenishes no further (R58 to R60). -/
theorem StreamEntry.wf.windowStart {e : StreamEntry} (h : e.wf) : e.windowStart.wf := by
  cases hvalid : e.valid with
  | false => rwa [StreamEntry.windowStart_of_not_valid hvalid]
  | true =>
    obtain ⟨hsource, hpage, hkinds, hlow, hhigh, -, hstaged, hbalance, -⟩ := h
    obtain ⟨hfloor, -⟩ := hbalance hvalid
    have hceiling := hstaged.2.1
    rw [StreamEntry.windowStart_of_valid hvalid]
    refine ⟨hsource, hpage, hkinds, hlow, hhigh, hstaged, hstaged, fun _ => ?_, by simp [hvalid]⟩
    have hclamped : -255 ≤ min e.balance e.staged.ceiling := le_min hfloor (by omega)
    show -255 ≤ (if _ then _ else _ : Int) ∧ (if _ then _ else _ : Int) ≤ _
    split
    · exact ⟨le_min (by omega) (by omega), min_le_right ..⟩
    · exact ⟨hclamped, min_le_right ..⟩

@[simp] theorem StreamEntry.windowStart_valid (e : StreamEntry) : e.windowStart.valid = e.valid := by
  unfold StreamEntry.windowStart
  split <;> rfl

/-- A charge of at most 256 bytes on a positive balance leaves at least −255 (R49, R53). -/
theorem StreamEntry.wf.charged {e : StreamEntry} (h : e.wf) (hvalid : e.valid = true) (hpositive : 0 < e.balance)
    {n : Nat} (hn : n ≤ 256) : StreamEntry.wf { e with balance := e.balance - n } := by
  obtain ⟨hsource, hpage, hkinds, hlow, hhigh, hactive, hstaged, hbalance, -⟩ := h
  obtain ⟨-, hceiling⟩ := hbalance hvalid
  refine ⟨hsource, hpage, hkinds, hlow, hhigh, hactive, hstaged, fun _ => ?_, by simp [hvalid]⟩
  dsimp only
  omega

theorem StreamEntry.wf.written {e : StreamEntry} (h : e.wf) {fields : MatchFields} {treatment : Fin 4 × Nat × Policy}
    {regulation : Regulation} (hfields : fields.WrittenOver e.fields) (hlimit : 1 ≤ treatment.2.1 ∧ treatment.2.1 ≤ 32)
    (hregulation : regulation.wf) : (e.written fields treatment regulation).wf := by
  obtain ⟨hsource, hpage, hkinds, -, -, hactive, -, hbalance, -⟩ := h
  have hordered : fields.sourceLow ≤ fields.sourceHigh ∧ fields.pageBase ≤ fields.pageLimit ∧
      (fields.kinds.read = true ∨ fields.kinds.write = true) := by
    obtain rfl | hordered := hfields
    · exact ⟨hsource, hpage, hkinds⟩
    · exact hordered
  have hceiling := hregulation.2.1
  refine ⟨hordered.1, hordered.2.1, hordered.2.2, hlimit.1, hlimit.2, ?_, hregulation, fun _ => ?_,
    by simp [StreamEntry.written]⟩
  · simp only [StreamEntry.written]
    split
    · exact hactive
    · exact hregulation
  · simp only [StreamEntry.written]
    cases hvalid : e.valid with
    | true => exact hbalance hvalid
    | false =>
      simp only [Bool.false_eq_true, if_false]
      split <;> omega

@[simp] theorem StreamEntry.written_valid (e : StreamEntry) (fields : MatchFields) (treatment : Fin 4 × Nat × Policy)
    (regulation : Regulation) : (e.written fields treatment regulation).valid = true := rfl

theorem StreamEntry.wf.deleted {e : StreamEntry} (h : e.wf) : e.deleted.wf := by
  unfold StreamEntry.deleted
  split
  · obtain ⟨hsource, hpage, hkinds, hlow, hhigh, -⟩ := h
    exact ⟨hsource, hpage, hkinds, hlow, hhigh, Regulation.reset_wf, Regulation.reset_wf, by simp, by simp⟩
  · exact h

/-! ### The laws of the stream table, without the stalled arrival -/

variable {s t : State}

/-- The laws of the stream table but for the stalled arrival, which a retry restores (R76). -/
structure StreamLaw (s : State) : Prop where
  defaultValid : s.streams[(0 : StreamIx)].valid = true
  entriesWf : ∀ i : StreamIx, s.streams[i].wf
  waitingValid : ∀ e ∈ s.entries, e.isWaiting = true → s.streams[e.stream].valid = true

/-- A stalled arrival is present only beside an entry (R172). -/
def StallLaw (s : State) : Prop := ∀ r i, s.port = .stalled r i → s.entries ≠ []

theorem streamInv_iff : StreamInv s ↔ StreamLaw s ∧ StallLaw s :=
  ⟨fun h => ⟨⟨h.defaultValid, h.entriesWf, h.waitingValid⟩, h.stallHasEntries⟩,
    fun ⟨h, hstall⟩ => ⟨h.defaultValid, h.entriesWf, h.waitingValid, hstall⟩⟩

theorem StreamLaw.of_same (h : StreamLaw s) (hstreams : t.streams = s.streams) (hentries : t.entries = s.entries) :
    StreamLaw t := by
  refine ⟨?_, ?_, ?_⟩
  · rw [hstreams]; exact h.defaultValid
  · rw [hstreams]; exact h.entriesWf
  · rw [hstreams, hentries]; exact h.waitingValid

theorem StreamLaw.sublist (h : StreamLaw s) (hstreams : t.streams = s.streams) (hentries : t.entries.Sublist s.entries) :
    StreamLaw t := by
  refine ⟨?_, ?_, fun e he => ?_⟩
  · rw [hstreams]; exact h.defaultValid
  · rw [hstreams]; exact h.entriesWf
  · rw [hstreams]; exact h.waitingValid e (hentries.subset he)

/-- Every entry keeps its validity and its shape. -/
theorem StreamLaw.mapStreams (h : StreamLaw s) (hentries : t.entries = s.entries)
    (hvalid : ∀ i : StreamIx, t.streams[i].valid = s.streams[i].valid) (hwf : ∀ i : StreamIx, t.streams[i].wf) :
    StreamLaw t := by
  refine ⟨by rw [hvalid]; exact h.defaultValid, hwf, fun e he hw => ?_⟩
  rw [hvalid]
  exact h.waitingValid e (hentries ▸ he) hw

/-- One entry is rewritten in its shape, and is valid unless no WAITING entry needs it. -/
theorem StreamLaw.setStream (h : StreamLaw s) {i : StreamIx} {e : StreamEntry} (hwf : e.wf)
    (hvalid : s.streams[i].valid = true → e.valid = true ∨ (i ≠ 0 ∧ s.waitingCount i = 0)) :
    StreamLaw (s.setStream i e) := by
  refine ⟨?_, fun j => ?_, fun x hx hw => ?_⟩
  · show (setAt s.streams i e)[(0 : StreamIx)].valid = true
    rw [setAt_fin]
    split
    · next h0 =>
      obtain hv | ⟨hne, -⟩ := hvalid (by rw [h0]; exact h.defaultValid)
      · exact hv
      · exact absurd h0 hne
    · exact h.defaultValid
  · show (setAt s.streams i e)[j].wf
    rw [setAt_fin]
    split
    · exact hwf
    · exact h.entriesWf j
  · show (setAt s.streams i e)[x.stream].valid = true
    have hold := h.waitingValid x hx hw
    rw [setAt_fin]
    split
    · next hi =>
      obtain hv | ⟨-, hcount⟩ := hvalid (by rw [hi]; exact hold)
      · exact hv
      · have hnone := List.countP_eq_zero.mp hcount x hx
        simp [hw, hi] at hnone
    · exact hold

theorem StreamLaw.of_reset (hstreams : t.streams = State.reset.streams) (hentries : t.entries = []) : StreamLaw t := by
  have hentry : ∀ i : StreamIx, t.streams[i] = StreamEntry.reset (i == 0) := fun i => by
    rw [hstreams]; simp [State.reset]
  refine ⟨by rw [hentry]; rfl, fun i => ?_, by simp [hentries]⟩
  rw [hentry]
  exact StreamEntry.reset_wf _

/-! ### Admission -/

/-- The stream of a request is valid: it matches, or it is stream 0 (R17, R18). -/
theorem State.classify_valid (hdefault : s.streams[(0 : StreamIx)].valid = true) (r : Request) :
    s.streams[s.classify r].valid = true := by
  cases hfind : Fin.find? (s.takesRequest r) with
  | none =>
    have hzero : s.classify r = 0 := by rw [State.classify_eq_find?, hfind]; rfl
    simpa only [hzero] using hdefault
  | some i =>
    have hi : s.classify r = i := by rw [State.classify_eq_find?, hfind]; rfl
    obtain ⟨-, hmatch⟩ := State.takesRequest_iff.mp (Fin.find?_eq_some_iff.mp hfind).1
    simpa only [hi] using ((s.streams[i].matchesRequest_iff ..).mp hmatch).1

/-- An attempt stalls only beside an entry: the list is full, a hold limit of at least 1 is reached, or the pool lacks
at most 16 of its 256 beats (R22, R70, R75). -/
theorem State.entries_ne_nil_of_stall (h : ∀ i : StreamIx, s.streams[i].wf) {r : Request} {i : StreamIx}
    (hverdict : s.verdict r = .stall i) : s.entries ≠ [] := by
  intro hnil
  obtain ⟨-, hfull | ⟨hshape, hlacks, -⟩⟩ := s.verdict_stall hverdict
  · simp [hnil] at hfull
  · obtain ⟨-, hhigh, -⟩ := malformed_eq_false_iff.mp hshape
    obtain ⟨-, -, -, hlimit, -⟩ := h i
    have hroom : s.lacksRoom r i = false := by
      refine State.lacksRoom_eq_false_iff.mpr ⟨?_, fun _ => ?_⟩
      · have hnone : s.waitingCount i = 0 := by simp [State.waitingCount, hnil]
        omega
      · simp only [State.poolFree, State.poolInUse, hnil, Config.poolCapacity, List.map_nil, List.sum_nil]
        omega
    rw [hroom] at hlacks
    cases hlacks

theorem StreamLaw.emit (h : StreamLaw s) (ns : List Notice) : StreamLaw (s.emit ns) :=
  h.of_same (by simp) (by simp)

theorem StreamLaw.snoc (h : StreamLaw s) {e : PendingEntry} (hstreams : t.streams = s.streams)
    (hentries : t.entries = s.entries ++ [e]) (he : e.isWaiting = true → s.streams[e.stream].valid = true) :
    StreamLaw t := by
  refine ⟨?_, ?_, fun x hx hw => ?_⟩
  · rw [hstreams]; exact h.defaultValid
  · rw [hstreams]; exact h.entriesWf
  · rw [hstreams]
    rw [hentries] at hx
    obtain hx | hx := List.mem_append.mp hx
    · exact h.waitingValid x hx hw
    · obtain rfl := List.mem_singleton.mp hx
      exact he hw

/-- An attempt keeps the laws and restores that of the stalled arrival. -/
theorem StreamLaw.attempt (h : StreamLaw s) (r : Request) : StreamInv (s.attempt r) := by
  obtain ⟨i, hv, heq⟩ | ⟨k, i, -, heq⟩ | ⟨i, hv, heq⟩ := s.attempt_cases r <;> rw [heq] <;> refine streamInv_iff.mpr ?_
  · rw [State.stall_eq]
    exact ⟨h.of_same rfl rfl, fun _ _ _ => State.entries_ne_nil_of_stall h.entriesWf hv⟩
  · have hport : (s.admitOwed r k i).port = .accepting := by simp [State.admitOwed]
    refine ⟨StreamLaw.emit ?_ _, fun _ _ hp => by rw [hport] at hp; cases hp⟩
    exact h.snoc (e := s.entryFor r (.replyOwed k) i) rfl rfl (by simp [State.entryFor, PendingEntry.isWaiting])
  · have hport : (s.admitWaiting r i).port = .accepting := by simp [State.admitWaiting]
    obtain ⟨-, -, rfl, -⟩ := s.verdict_admit hv
    refine ⟨StreamLaw.emit ?_ _, fun _ _ hp => by rw [hport] at hp; cases hp⟩
    exact h.snoc (e := s.entryFor r .waiting (s.classify r)) rfl rfl fun _ => State.classify_valid h.defaultValid r

theorem StreamLaw.retry (h : StreamLaw s) : StreamInv s.retry := by
  obtain ⟨r, i, -, heq⟩ | ⟨hport, heq⟩ := s.retry_cases <;> rw [heq]
  · exact h.attempt r
  · exact streamInv_iff.mpr ⟨h, fun r i hp => absurd hp (hport r i)⟩

/-! ### Steps that the laws of the stream table do not see -/

theorem StreamInv.of_same (h : StreamInv s) (hstreams : t.streams = s.streams) (hentries : t.entries = s.entries)
    (hport : t.port = s.port) : StreamInv t := by
  obtain ⟨hlaw, hstall⟩ := streamInv_iff.mp h
  refine streamInv_iff.mpr ⟨hlaw.of_same hstreams hentries, fun r i hp => ?_⟩
  rw [hentries]
  exact hstall r i (hport ▸ hp)

/-- With a port that is not STALLED there is nothing to ask of the list. -/
theorem StreamLaw.of_notStalled (h : StreamLaw s) (hport : ∀ r i, s.port ≠ .stalled r i) : StreamInv s :=
  streamInv_iff.mpr ⟨h, fun r i hp => absurd hp (hport r i)⟩

theorem State.portAfterReset_notStalled (s : State) (r : Request) (i : StreamIx) : s.portAfterReset ≠ .stalled r i := by
  unfold State.portAfterReset
  split <;> simp

theorem StreamInv.law (h : StreamInv s) : StreamLaw s := (streamInv_iff.mp h).1

theorem StreamInv.emit (h : StreamInv s) (ns : List Notice) : StreamInv (s.emit ns) :=
  h.of_same (by simp) (by simp) (by simp)

theorem StreamInv.windowStart (h : StreamInv s) : StreamInv s.windowStart := by
  obtain ⟨hlaw, hstall⟩ := streamInv_iff.mp h
  refine streamInv_iff.mpr ⟨hlaw.mapStreams (by simp) (fun i => ?_) (fun i => ?_), fun r i hp => ?_⟩
  · rw [State.windowStart_streams, mapAll_fin, StreamEntry.windowStart_valid]
  · rw [State.windowStart_streams, mapAll_fin]
    exact (hlaw.entriesWf i).windowStart
  · rw [State.windowStart_entries]
    exact hstall r i (by simpa using hp)

/-! ### The issue -/

/-- A stream that an issue charges is READY under a budget while RUNNING, so that its balance is positive (R50, R53). -/
theorem State.balance_pos_of_charges {i : StreamIx} (hready : s.gate i = .ready) (hcharges : s.charges i = true) :
    s.streams[i].valid = true ∧ 0 < s.streams[i].balance := by
  simp only [State.charges, Bool.and_eq_true] at hcharges
  obtain ⟨hrunning, hbudget⟩ := hcharges
  have hvalid : s.streams[i].valid = true := by
    by_contra hno
    rw [State.gate_of_not_valid (Bool.eq_false_of_not_eq_true hno)] at hready
    cases hready
  have hpaused : s.streams[i].paused = false := by
    by_contra hyes
    rw [State.gate_of_paused hvalid (Bool.eq_true_of_not_eq_false hyes)] at hready
    cases hready
  have hopen : ¬ s.BoundToClosed i := fun hclosed => by
    rw [State.gate_of_closed hvalid hpaused hrunning hclosed] at hready
    cases hready
  refine ⟨hvalid, ?_⟩
  by_contra hspent
  rw [(State.gate_of_not_closed hvalid hpaused hrunning hopen).1 ⟨hbudget, by omega⟩] at hready
  cases hready

/-- The charge of an issue changes the balance of its stream alone, and only of a READY stream under a budget (R53). -/
theorem State.charged_entry {i : StreamIx} {beats : BitVec 5} (hready : s.gate i = .ready) (j : StreamIx) :
    (s.charged i beats)[j] = s.streams[j] ∨
      (s.streams[j].valid = true ∧ 0 < s.streams[j].balance ∧
        (s.charged i beats)[j] = { s.streams[j] with balance := s.streams[j].balance - bytesOf beats }) := by
  unfold State.charged
  split
  · next hcharges =>
    obtain ⟨hvalid, hpositive⟩ := State.balance_pos_of_charges hready hcharges
    rw [setAt_fin]
    split
    · next hij => subst hij; exact .inr ⟨hvalid, hpositive, rfl⟩
    · exact .inl rfl
  · exact .inl rfl

theorem StreamLaw.issueTo (h : StreamLaw s) {e : PendingEntry} {i : SlotIx} (hready : s.gate e.stream = .ready)
    (hbeats : e.beats.toNat ≤ 16) : StreamInv (s.issueTo e i) := by
  refine StreamLaw.retry (StreamLaw.emit ?_ _)
  have hcharged : StreamLaw { s with streams := s.charged e.stream e.beats } := by
    refine h.mapStreams rfl (fun j => ?_) (fun j => ?_)
    · obtain heq | ⟨-, -, heq⟩ := State.charged_entry (beats := e.beats) hready j <;> rw [heq]
    · obtain heq | ⟨hvalid, hpositive, heq⟩ := State.charged_entry (beats := e.beats) hready j <;> rw [heq]
      · exact h.entriesWf j
      · exact (h.entriesWf j).charged hvalid hpositive (by unfold bytesOf; omega)
  exact hcharged.sublist rfl (removeEntry_sublist ..)

/-! ### Commands -/

theorem StreamInv.served (h : StreamInv s) {r : Reply} (hr : Served s r) : StreamInv r.state := by
  have hlaw := h.law
  cases hr
  case turnedAway | shown => exact h
  case softReset =>
    have hreset : StreamLaw s.softReset := .of_reset rfl rfl
    exact hreset.of_notStalled fun _ _ => s.portAfterReset_notStalled _ _
  case windowStart => exact h.windowStart
  case streamWrite i fields treatment regulation hfields hlimit hregulation =>
    exact (hlaw.setStream ((hlaw.entriesWf i).written hfields hlimit hregulation) fun _ => .inl rfl).retry
  case streamDelete i hindex hcount =>
    exact (hlaw.setStream (hlaw.entriesWf i).deleted fun _ => .inr ⟨hindex, hcount⟩).retry
  case paused i b =>
    obtain ⟨-, hstall⟩ := streamInv_iff.mp h
    exact streamInv_iff.mpr ⟨hlaw.setStream (e := { s.streams[i] with paused := b }) (hlaw.entriesWf i) .inl, hstall⟩
  case purge i d hlen =>
    refine StreamLaw.retry (StreamLaw.emit ?_ _)
    refine ⟨hlaw.defaultValid, hlaw.entriesWf, fun x hx hw => ?_⟩
    obtain ⟨e, he, rfl⟩ := List.mem_map.mp hx
    by_cases hpurged : e.isWaiting = true ∧ e.stream = i
    · rw [PendingEntry.purged_of_waiting hpurged.1 hpurged.2] at hw
      cases hw
    · rw [PendingEntry.purged_of_not hpurged] at hw ⊢
      exact hlaw.waitingValid e he hw
  all_goals exact h.of_same rfl rfl rfl

theorem StreamInv.runCommand (h : StreamInv s) {code : Byte} {owner : State → Reply}
    (howner : ∀ t, Served t (owner t)) : StreamInv (s.runCommand code owner) := by
  have hserve : ∀ u : State, StreamInv u → StreamInv (u.serve code owner) := fun u hu =>
    (hu.served (howner u)).of_same rfl rfl rfl
  obtain ⟨-, heq⟩ | ⟨-, heq⟩ | ⟨r, -, -, heq | heq⟩ := s.runCommand_cases code owner <;> rw [heq]
  · exact h.of_same rfl rfl rfl
  · exact hserve _ (h.of_same rfl rfl rfl)
  · exact StreamInv.of_same (hserve s.drawOrder (h.of_same rfl rfl rfl)) rfl rfl rfl
  · exact hserve _ (h.of_same rfl rfl rfl)

theorem StreamInv.exec_command (h : StreamInv s) {c : Instr} (hc : isCommand c = true)
    (ht : Machine.exec c s = .next t) : StreamInv t := by
  obtain ⟨code, owner, hexec, howner⟩ := hasOwner_of_isCommand hc
  rw [hexec] at ht
  cases ht
  exact h.runCommand howner

theorem StreamInv.exec_frameError (h : StreamInv s) {bits : List Bool}
    (ht : Machine.exec (.frameError bits) s = .next t) : StreamInv t := by
  replace ht : execFrameError bits s = .next t := ht
  obtain ⟨-, heq⟩ | ⟨-, -, heq | ⟨code, e, heq⟩ | ⟨c, hc, heq⟩⟩ := execFrameError_cases bits s <;> rw [heq] at ht
  · cases ht; exact h.of_same rfl rfl rfl
  · cases ht; exact h.of_same rfl rfl rfl
  · cases ht; exact h.of_same rfl rfl rfl
  · exact h.exec_command hc ht

/-! ### Events -/

theorem StreamInv.intake (h : StreamInv s) (r : SouthResponse) : StreamInv (s.intake r) := by
  have hstray : StreamInv s.strayDrop := (h.of_same rfl rfl rfl : StreamInv (s.withSticky _)).emit _
  unfold State.intake
  dsimp only
  split
  · exact hstray
  · split
    · exact hstray
    · split
      · refine StreamInv.emit ?_ _
        exact h.of_same rfl rfl rfl
      · exact h.of_same rfl rfl rfl

theorem StreamInv.handSample (h : StreamInv s) (r : SampleRecord) : StreamInv (s.handSample r) := by
  obtain ⟨-, heq⟩ | ⟨-, heq⟩ := s.handSample_cases r <;> rw [heq] <;> exact h.of_same rfl rfl rfl

theorem StreamInv.forward (h : StreamInv s) (c : Candidate) (g : SlotStage) (q : SlotRequest) :
    StreamInv (s.forward c g q) := by
  refine StreamInv.handSample (StreamInv.emit ?_ _) _
  exact h.of_same rfl rfl rfl

theorem StreamInv.redropCandidate (h : StreamInv s) : StreamInv s.redropCandidate.1 := by
  rw [State.redropCandidate_eq]
  exact h.of_same rfl rfl rfl

theorem StreamInv.timeOut (h : StreamInv s) (i : SlotIx) (q : SlotRequest) : StreamInv (s.timeOut i q) := by
  unfold State.timeOut
  dsimp only
  split
  · refine StreamInv.emit (StreamInv.redropCandidate ?_) _
    exact h.of_same rfl rfl rfl
  · refine StreamInv.emit ?_ _
    exact h.of_same rfl rfl rfl

theorem StreamLaw.sendOwed (h : StreamLaw s) (e : PendingEntry) (k : ReplyKind) : StreamInv (s.sendOwed e k) := by
  refine StreamLaw.retry ?_
  exact h.sublist rfl (removeEntry_sublist ..)

theorem StreamLaw.linkReset (h : StreamLaw s) : StreamInv s.linkReset := by
  have hemptied : StreamLaw s.linkEmptied := h.sublist rfl (List.nil_sublist _)
  have hemptied : StreamInv s.linkEmptied := hemptied.of_notStalled fun r i hp => by cases hp
  exact hemptied.redropCandidate.emit _

theorem StreamInv.takeDueStart (h : StreamInv s) : StreamInv s.takeDueStart := by
  obtain ⟨-, -, heq⟩ | ⟨-, heq⟩ := s.takeDueStart_cases <;> rw [heq]
  · refine StreamInv.windowStart ?_
    exact h.of_same rfl rfl rfl
  · exact h

theorem StreamInv.expire (h : StreamInv s) : StreamInv s.expire := h.of_same (by simp) (by simp) (by simp)

theorem StreamInv.withWindow (h : StreamInv s) (w : WindowGen) : StreamInv (s.withWindow w) := h.of_same rfl rfl rfl

theorem StreamInv.settle (h : StreamInv s) : StreamInv s.settle := (h.takeDueStart.withWindow _).expire

theorem StreamInv.exec_event (h : StreamInv s) (htraffic : TrafficInv s) {c : Instr} (hc : isCommand c = false)
    (ht : Machine.exec c s = .next t) : StreamInv t := by
  have hlaw := h.law
  cases c
  case frameError bits => exact h.exec_frameError ht
  all_goals try cases hc
  all_goals cases ht
  case arrival m =>
    split
    · exact h
    · split
      · exact hlaw.attempt _
      · exact h
  case issue =>
    split
    · exact h
    · split
      · next e i hhead _ =>
        obtain ⟨he, hwaiting⟩ := State.chooseHead_waiting hhead
        obtain ⟨-, -, hready⟩ := State.mem_readyHeads_iff.mp (State.mem_readyHeads_of_chooseHead hhead)
        obtain ⟨-, hbeats, -⟩ := (PendingEntry.wf_of_waiting hwaiting).mp (htraffic.entriesWf e he)
        exact hlaw.issueTo hready hbeats
      · exact h
  case southResponseIntake m =>
    split
    · exact h
    · exact h.intake _
  case forwarding =>
    split
    · split
      · exact h.forward ..
      · exact h
    · exact h
  case timeoutReply =>
    split
    · split
      · exact h.timeOut ..
      · exact h
    · exact h
  case owedReply =>
    split
    · split
      · split
        · exact hlaw.sendOwed ..
        · exact h
      · exact h
    · exact h
  case microtick =>
    split
    · exact h
    · have hsample : StreamInv s.settleSample := h.of_same rfl rfl rfl
      exact hsample.settle.withWindow _
  case expiry =>
    split
    · exact h
    · have hsample : StreamInv s.settleSample := h.of_same rfl rfl rfl
      exact hsample.expire
  case windowStartEvent =>
    split
    · exact h
    · exact h.takeDueStart
  case phaseOpen ch | phaseClose ch =>
    split
    · exact h.of_same rfl rfl rfl
    · exact h
  case nlrstAssert =>
    split
    · exact h
    · split
      · exact h.of_same rfl rfl rfl
      · exact hlaw.linkReset
  case nlrstRelease =>
    split
    · exact h
    · split
      · exact h.of_same rfl rfl rfl
      · refine StreamLaw.of_notStalled ?_ fun r i hp => by cases hp
        exact hlaw.of_same rfl rfl
  case rstAssert =>
    split
    · exact h
    · refine StreamLaw.of_notStalled ?_ fun _ _ => s.portAfterReset_notStalled _ _
      exact hlaw.of_same rfl rfl
  case rstRelease =>
    split
    · have hreset : StreamLaw s.cutFrame.powerOn := .of_reset rfl rfl
      exact hreset.of_notStalled fun _ _ => s.cutFrame.portAfterReset_notStalled _ _
    · exact h
  case frameIgnored | nop => exact h.of_same rfl rfl rfl
  case selFallingEdge =>
    split
    · exact h
    · split <;> exact h.of_same rfl rfl rfl

end Sys2Proof.Machine

namespace Sys2Proof

/-- Settles O58: the commands keep the laws of the stream table by themselves; an issue charges at most 256 bytes by the
shape of the entries. -/
theorem stepKeepsStreamLaws : Obligations.StepKeepsStreamLaws := by
  unfold Obligations.StepKeepsStreamLaws
  intro s t h hstep
  obtain rfl | ⟨c, rest, -, hexec⟩ := Machine.step_cases hstep
  · exact h.streams
  · have hstreams : Machine.StreamInv { s with pending := rest } := h.streams.of_same rfl rfl rfl
    have htraffic : Machine.TrafficInv { s with pending := rest } :=
      h.traffic.of_same ⟨rfl, rfl, rfl, rfl, rfl, rfl, rfl, rfl, rfl, rfl⟩
    cases hc : Machine.isCommand c with
    | true => exact hstreams.exec_command hc hexec
    | false => exact hstreams.exec_event htraffic hc hexec

end Sys2Proof
end

section
/-! The phase channels at the position (R37, R41): what is due by the position alone, and the phases once it is taken. -/

namespace Sys2Proof.Machine

namespace WindowGen

variable (w : WindowGen) (c : ChannelIx)

/-- The position is the channel's offset, inside the window, and the channel has a width (R41). -/
def OpensHere : Prop :=
  w.running = true ∧ w.position = w.active.channels[c].offset ∧ 1 ≤ w.active.channels[c].offset ∧
    w.active.channels[c].offset < w.active.length ∧ 0 < w.active.channels[c].width

/-- The position is the end of the channel's open interval, inside the window (R41). -/
def ClosesHere : Prop :=
  w.running = true ∧ w.position = w.active.channels[c].offset + w.active.channels[c].width ∧
    w.active.channels[c].offset + w.active.channels[c].width < w.active.length

variable {w c}

theorem openDue_iff : w.openDue c = true ↔ w.phaseOpen[c] = false ∧ w.OpensHere c := by
  simp only [openDue, OpensHere, Bool.and_eq_true, Bool.not_eq_true', beq_iff_eq, decide_eq_true_eq]
  tauto

theorem closeDue_iff : w.closeDue c = true ↔ w.phaseOpen[c] = true ∧ w.ClosesHere c := by
  simp only [closeDue, ClosesHere, Bool.and_eq_true, beq_iff_eq, decide_eq_true_eq]
  tauto

theorem ClosesHere.not_opensHere (h : w.ClosesHere c) : ¬ w.OpensHere c := by
  rintro ⟨-, hopen, -, -, hwidth⟩
  obtain ⟨-, hclose, -⟩ := h
  omega

theorem settledPhases_fin :
    w.settledPhases[c] = if w.openDue c then true else if w.closeDue c then false else w.phaseOpen[c] := by
  simp [settledPhases]

theorem settledPhases_of_opens (h : w.OpensHere c) : w.settledPhases[c] = true := by
  rw [settledPhases_fin]
  have hno : w.closeDue c = false := Bool.eq_false_of_not_eq_true fun hc => (closeDue_iff.mp hc).2.not_opensHere h
  cases hphase : w.phaseOpen[c] with
  | false => rw [if_pos (openDue_iff.mpr ⟨hphase, h⟩)]
  | true => simp [hno]

theorem settledPhases_of_closes (h : w.ClosesHere c) : w.settledPhases[c] = false := by
  rw [settledPhases_fin]
  have hno : w.openDue c = false := Bool.eq_false_of_not_eq_true fun ho => h.not_opensHere (openDue_iff.mp ho).2
  cases hphase : w.phaseOpen[c] with
  | false => simp [hno]
  | true => rw [if_neg (by simp [hno]), if_pos (closeDue_iff.mpr ⟨hphase, h⟩)]

theorem settledPhases_of_neither (hopen : ¬ w.OpensHere c) (hclose : ¬ w.ClosesHere c) :
    w.settledPhases[c] = w.phaseOpen[c] := by
  rw [settledPhases_fin, if_neg fun h => hopen (openDue_iff.mp h).2, if_neg fun h => hclose (closeDue_iff.mp h).2]

/-- The settled phases depend on the phases only through the channels of which nothing is due. -/
theorem settledPhases_congr {v : Vector Bool 4}
    (hv : ∀ c, ¬ w.OpensHere c → ¬ w.ClosesHere c → v[c] = w.phaseOpen[c]) :
    ({ w with phaseOpen := v } : WindowGen).settledPhases = w.settledPhases := by
  ext j hj
  have key : ∀ c : ChannelIx, ({ w with phaseOpen := v } : WindowGen).settledPhases[c] = w.settledPhases[c] := by
    intro c
    by_cases hopen : w.OpensHere c
    · rw [settledPhases_of_opens hopen, settledPhases_of_opens (w := { w with phaseOpen := v }) hopen]
    · by_cases hclose : w.ClosesHere c
      · rw [settledPhases_of_closes hclose, settledPhases_of_closes (w := { w with phaseOpen := v }) hclose]
      · rw [settledPhases_of_neither hopen hclose,
          settledPhases_of_neither (w := { w with phaseOpen := v }) hopen hclose]
        exact hv c hopen hclose
  exact key ⟨j, hj⟩

/-- Taking what is due twice takes it once. -/
theorem settledPhases_settled :
    ({ w with phaseOpen := w.settledPhases } : WindowGen).settledPhases = w.settledPhases :=
  settledPhases_congr fun _ => settledPhases_of_neither

theorem settledPhases_opened (h : w.openDue c = true) :
    ({ w with phaseOpen := setAt w.phaseOpen c true } : WindowGen).settledPhases = w.settledPhases :=
  settledPhases_congr fun _ hopen _ => setAt_fin_ne _ _ fun heq => hopen (heq ▸ (openDue_iff.mp h).2)

theorem settledPhases_closed (h : w.closeDue c = true) :
    ({ w with phaseOpen := setAt w.phaseOpen c false } : WindowGen).settledPhases = w.settledPhases :=
  settledPhases_congr fun _ _ hclose => setAt_fin_ne _ _ fun heq => hclose (heq ▸ (closeDue_iff.mp h).2)

end WindowGen

/-! ### The laws of the window generator -/

variable {w : WindowGen}

theorem WindowSettings.reset_wf : WindowSettings.reset.wf := by
  refine ⟨by decide, by decide, fun c => ?_⟩
  simp [WindowSettings.reset]

theorem WindowInv.reset : WindowInv WindowGen.reset where
  prescalerRange := by decide
  intervalRange := by decide
  activeWf := WindowSettings.reset_wf
  stagedWf := WindowSettings.reset_wf
  positionRange := by decide
  stopped := fun _ => ⟨rfl, rfl, fun c => by simp [WindowGen.reset]⟩
  phaseLaw := fun h => by cases h

/-- At a window start a channel is OPEN exactly when its open interval begins with the window (R38). -/
theorem WindowInv.start (h : WindowInv w) (due : Bool) :
    WindowInv { w.start with running := true, startDue := due } where
  prescalerRange := h.prescalerRange
  intervalRange := h.intervalRange
  activeWf := h.stagedWf
  stagedWf := h.stagedWf
  positionRange := Nat.lt_of_lt_of_le (Nat.succ_pos 15) h.stagedWf.1
  stopped := fun hno => by cases hno
  phaseLaw := by
    intro _ _ c
    have hphase : ({ w.start with running := true, startDue := due } : WindowGen).phaseOpen[c] =
        (w.staged.channels[c].offset == 0 && decide (0 < w.staged.channels[c].width)) := mapAll_fin ..
    rw [WindowGen.settledPhases_fin, if_neg, if_neg, hphase]
    · show _ = decide (w.staged.channels[c].offset ≤ 0 ∧ 0 < w.staged.channels[c].offset + w.staged.channels[c].width)
      rw [Bool.eq_iff_iff]
      simp only [Bool.and_eq_true, beq_iff_eq, decide_eq_true_eq]
      omega
    · intro hclose
      obtain ⟨hopen, -, hend, -⟩ := WindowGen.closeDue_iff.mp hclose
      rw [hphase] at hopen
      simp only [Bool.and_eq_true, decide_eq_true_eq] at hopen
      have hend : 0 = w.staged.channels[c].offset + w.staged.channels[c].width := hend
      omega
    · intro hopen
      obtain ⟨-, -, hoffset, hinside, -⟩ := WindowGen.openDue_iff.mp hopen
      have hoffset : 0 = w.staged.channels[c].offset := hoffset
      have hinside : 1 ≤ w.staged.channels[c].offset := hinside
      omega

theorem WindowInv.congr_phases (h : WindowInv w) {v : Vector Bool 4}
    (hstopped : w.running = false → ∀ c : ChannelIx, v[c] = false)
    (hsettled : ({ w with phaseOpen := v } : WindowGen).settledPhases = w.settledPhases) :
    WindowInv { w with phaseOpen := v } where
  prescalerRange := h.prescalerRange
  intervalRange := h.intervalRange
  activeWf := h.activeWf
  stagedWf := h.stagedWf
  positionRange := h.positionRange
  stopped := fun hrunning => ⟨(h.stopped hrunning).1, (h.stopped hrunning).2.1, hstopped hrunning⟩
  phaseLaw := fun hrunning hdue c => by
    rw [hsettled]
    exact h.phaseLaw hrunning hdue c

theorem WindowInv.settlePhases (h : WindowInv w) : WindowInv { w with phaseOpen := w.settledPhases } := by
  refine h.congr_phases (fun hrunning c => ?_) WindowGen.settledPhases_settled
  obtain ⟨-, -, hclosed⟩ := h.stopped hrunning
  rw [WindowGen.settledPhases_of_neither, hclosed c]
  · rintro ⟨hr, -⟩; rw [hrunning] at hr; cases hr
  · rintro ⟨hr, -⟩; rw [hrunning] at hr; cases hr

theorem WindowInv.opened (h : WindowInv w) {c : ChannelIx} (hdue : w.openDue c = true) :
    WindowInv { w with phaseOpen := setAt w.phaseOpen c true } := by
  refine h.congr_phases (fun hrunning => ?_) (WindowGen.settledPhases_opened hdue)
  obtain ⟨-, hr, -⟩ := WindowGen.openDue_iff.mp hdue
  rw [hrunning] at hr; cases hr

theorem WindowInv.closed (h : WindowInv w) {c : ChannelIx} (hdue : w.closeDue c = true) :
    WindowInv { w with phaseOpen := setAt w.phaseOpen c false } := by
  refine h.congr_phases (fun hrunning => ?_) (WindowGen.settledPhases_closed hdue)
  obtain ⟨-, hr, -⟩ := WindowGen.closeDue_iff.mp hdue
  rw [hrunning] at hr; cases hr

/-- A microtick at which everything due has been taken (R33, R37, R41). -/
theorem WindowInv.tick (h : WindowInv w) (hdue : w.startDue = false) (hsettled : w.phaseOpen = w.settledPhases) :
    WindowInv w.tick := by
  have hposition := h.positionRange
  have hlength := h.activeWf.1
  refine ⟨h.prescalerRange, h.prescalerRange, h.activeWf, h.stagedWf, ?_, fun hrunning => ?_, fun hrunning hstart c => ?_⟩
  · show (if w.running then (if (w.running && w.position + 1 == w.active.length) then 0 else w.position + 1) else w.position)
      < w.active.length
    split
    · next hrunning =>
      simp only [hrunning, Bool.true_and, beq_iff_eq]
      split <;> omega
    · exact hposition
  · have hrunning : w.running = false := hrunning
    obtain ⟨hzero, -, hclosed⟩ := h.stopped hrunning
    exact ⟨by simp [WindowGen.tick, hrunning, hzero], by simp [WindowGen.tick, hrunning, hdue], hclosed⟩
  · have hrunning : w.running = true := hrunning
    have hinside : w.position + 1 ≠ w.active.length := by
      simpa [WindowGen.tick, hrunning, hdue] using hstart
    have hnext : w.tick.position = w.position + 1 := by simp [WindowGen.tick, hrunning, hinside]
    have hactive : w.tick.active = w.active := rfl
    have hphase : w.tick.phaseOpen[c] =
        decide (w.active.channels[c].offset ≤ w.position ∧
          w.position < w.active.channels[c].offset + w.active.channels[c].width) :=
      (show w.phaseOpen[c] = w.settledPhases[c] by rw [← hsettled]).trans (h.phaseLaw hrunning hdue c)
    rw [hactive, hnext]
    by_cases hopen : w.tick.OpensHere c
    · rw [WindowGen.settledPhases_of_opens hopen]
      obtain ⟨-, hoffset, -, -, hwidth⟩ := hopen
      rw [hactive, hnext] at hoffset
      rw [hactive] at hwidth
      exact (decide_eq_true (by omega)).symm
    · by_cases hclose : w.tick.ClosesHere c
      · rw [WindowGen.settledPhases_of_closes hclose]
        obtain ⟨-, hend, -⟩ := hclose
        rw [hactive, hnext] at hend
        exact (decide_eq_false (by omega)).symm
      · rw [WindowGen.settledPhases_of_neither hopen hclose, hphase]
        have hopen' : ¬ (w.position + 1 = w.active.channels[c].offset ∧ 0 < w.active.channels[c].width) := by
          rintro ⟨hoffset, hwidth⟩
          exact hopen ⟨hrunning, hnext.trans hoffset, by rw [hactive]; omega, by rw [hactive]; omega, hwidth⟩
        have hclose' : w.position + 1 ≠ w.active.channels[c].offset + w.active.channels[c].width := by
          intro hend
          exact hclose ⟨hrunning, hnext.trans hend, by rw [hactive]; omega⟩
        rw [decide_eq_decide]
        omega

theorem WindowInv.stop (h : WindowInv w) : WindowInv w.stop := by
  unfold WindowGen.stop
  split
  · exact ⟨h.prescalerRange, h.intervalRange, h.activeWf, h.stagedWf, Nat.lt_of_lt_of_le (Nat.succ_pos 15) h.activeWf.1,
      fun _ => ⟨rfl, rfl, fun c => by simp⟩, fun hno => by cases hno⟩
  · exact h

theorem WindowInv.set (h : WindowInv w) {w' : WindowGen} (hset : w.Set w') : WindowInv w' := by
  cases hset with
  | prescaler p hrange =>
    exact ⟨hrange, h.intervalRange, h.activeWf, h.stagedWf, h.positionRange, h.stopped, h.phaseLaw⟩
  | staged set hwf =>
    exact ⟨h.prescalerRange, h.intervalRange, h.activeWf, hwf, h.positionRange, h.stopped, h.phaseLaw⟩
  | stop => exact h.stop

end Sys2Proof.Machine
end

section
/-! Every step keeps the laws of the accounting unit with the capture queue, and of the management port: the shared
operations on the books first, then the commands one after another (R126 to R158, R163 to R169). -/

namespace Sys2Proof.Machine

/-! ### The sample that is due -/

variable {s t : State}

@[simp] theorem State.captureAttempt_sampleDue (k : CaptureCause) (n : Option (BitVec 32)) (b : Vector Int 16) :
    (s.captureAttempt k n b).accounting.sampleDue = s.accounting.sampleDue := by
  unfold State.captureAttempt
  split <;> rfl

@[simp] theorem State.freezeBy_sampleDue (i : CounterIx) :
    (s.freezeBy i).accounting.sampleDue = s.accounting.sampleDue := by
  unfold State.freezeBy
  dsimp only
  split
  · rw [State.captureAttempt_sampleDue]; rfl
  · rfl

/-- Counting leaves the sample that is due as it is. -/
theorem State.count_sampleDue (f : Counter → Counter × Bool) :
    (s.count f).accounting.sampleDue = s.accounting.sampleDue := by
  unfold State.count
  cases s.accounting.state with
  | frozen => rfl
  | counting =>
    dsimp only
    split
    · rfl
    · rw [State.withBooks_accounting, State.books_accounting, State.freezeBy_sampleDue]; rfl

/-- After a counting event no sample is due (R116). -/
@[simp] theorem State.countEvent_sampleDue (f : Counter → Counter × Bool) :
    (s.countEvent f).accounting.sampleDue = none := by
  rw [State.countEvent, State.count_sampleDue]
  simp

@[simp] theorem State.periodicCapture_sampleDue (r : WindowReport) :
    (s.periodicCapture r).accounting.sampleDue = s.accounting.sampleDue := by
  unfold State.periodicCapture
  split
  · rfl
  · split
    · rw [State.captureAttempt_sampleDue]
    · rfl

@[simp] theorem State.takeReport_sampleDue (r : WindowReport) : (s.takeReport r).accounting.sampleDue = none := by
  simp [State.takeReport]

/-- What an operation leaves of the sample that is due: the sample is taken or stays. -/
def State.KeepsDue (t s : State) : Prop :=
  t.accounting.sampleDue = none ∨ t.accounting.sampleDue = s.accounting.sampleDue

theorem State.KeepsDue.trans {u : State} (htu : t.KeepsDue u) (hus : u.KeepsDue s) : t.KeepsDue s := by
  obtain h | h := htu
  · exact .inl h
  · obtain h' | h' := hus
    · exact .inl (h.trans h')
    · exact .inr (h.trans h')

theorem State.emit_keepsDue (ns : List Notice) : (s.emit ns).KeepsDue s := by
  induction ns generalizing s with
  | nil => exact .inr rfl
  | cons n ns ih =>
    rw [State.emit_cons]
    exact ih.trans (.inl (State.countEvent_sampleDue _))

theorem State.stall_keepsDue (r : Request) (i : StreamIx) : (s.stall r i).KeepsDue s := by
  unfold State.stall
  split
  · exact .inr rfl
  · exact State.emit_keepsDue _

theorem State.attempt_keepsDue (r : Request) : (s.attempt r).KeepsDue s := by
  obtain ⟨i, -, h⟩ | ⟨k, i, -, h⟩ | ⟨i, -, h⟩ := s.attempt_cases r <;> rw [h]
  · exact State.stall_keepsDue r i
  · exact State.emit_keepsDue _
  · exact State.emit_keepsDue _

theorem State.retry_keepsDue : s.retry.KeepsDue s := by
  obtain ⟨r, i, -, h⟩ | ⟨-, h⟩ := s.retry_cases <;> rw [h]
  · exact State.attempt_keepsDue r
  · exact .inr rfl

theorem State.windowStart_keepsDue : s.windowStart.KeepsDue s := by
  unfold State.windowStart
  dsimp only
  split
  · exact .inl (State.takeReport_sampleDue _)
  · exact .inr rfl

/-- The owner of a command leaves no sample due that was not. -/
theorem Served.keepsDue {r : Reply} (h : Served s r) : r.state.KeepsDue s := by
  cases h
  case softReset => exact .inl rfl
  case windowStart => exact State.windowStart_keepsDue
  case streamWrite => exact State.retry_keepsDue.trans (.inr rfl)
  case streamDelete => exact State.retry_keepsDue.trans (.inr rfl)
  case purge => exact State.retry_keepsDue.trans ((State.emit_keepsDue _).trans (.inr rfl))
  case captureNow => exact .inr (State.captureAttempt_sampleDue ..)
  all_goals exact .inr rfl

/-! ### The laws of the accounting unit and the capture queue -/

/-- The laws of the counters and of the histogram (R126, R140, R143, R144). -/
structure UnitLaw (u : AccountingUnit) : Prop where
  countersWf : ∀ i : CounterIx, u.counters[i].config.wf
  boundariesAscend : ascending u.histogram.config.boundaries = true
  markedFull : ∀ i : Fin 8, u.histogram.bins[i].saturated = true → u.histogram.bins[i].count = BitVec.allOnes 32
  worstAddress : ∀ r, u.histogram.worst = some r → r.address.isSome = u.histogram.config.keepAddress

/-- The laws of the capture queue (R149, R153). -/
structure QueueLaw (q : CaptureQueue) : Prop where
  recordsBound : q.records.length ≤ 4
  missedBound : q.missed ≤ 255
  periodBound : q.period ≤ 255
  periodicBound : q.periodicCount = 0 ∨ q.periodicCount < q.period

/-- The laws of the accounting unit and of the capture queue together: what every operation on the books keeps. -/
structure BooksLaw (s : State) : Prop where
  unit : UnitLaw s.accounting
  queue : QueueLaw s.capture

/-- A sample is due only within a frame (R147). -/
def DueLaw (s : State) : Prop := s.accounting.sampleDue ≠ none → s.inFrame = true

theorem accountingInv_iff : AccountingInv s ↔ DueLaw s ∧ BooksLaw s :=
  ⟨fun h => ⟨h.dueInFrame, ⟨h.countersWf, h.boundariesAscend, h.markedFull, h.worstAddress⟩,
      ⟨h.recordsBound, h.missedBound, h.periodBound, h.periodicBound⟩⟩,
    fun ⟨hdue, ⟨hu, hq⟩⟩ =>
      { dueInFrame := hdue, countersWf := hu.countersWf, boundariesAscend := hu.boundariesAscend
        markedFull := hu.markedFull, worstAddress := hu.worstAddress, recordsBound := hq.recordsBound
        missedBound := hq.missedBound, periodBound := hq.periodBound, periodicBound := hq.periodicBound }⟩

theorem DueLaw.of_keepsDue (h : DueLaw s) (hdue : t.KeepsDue s) (hframe : t.inFrame = s.inFrame) : DueLaw t := by
  intro hsome
  obtain hnone | hsame := hdue
  · exact absurd hnone hsome
  · rw [hframe]
    exact h (hsame ▸ hsome)

theorem DueLaw.of_none (h : s.accounting.sampleDue = none) : DueLaw s := fun hsome => absurd h hsome

/-! ### One histogram -/

variable {u : AccountingUnit}

theorem Bin.take_marked {b : Bin} (h : b.saturated = true → b.count = BitVec.allOnes 32) :
    b.take.saturated = true → b.take.count = BitVec.allOnes 32 := by
  unfold Bin.take
  split
  · next hfull => exact fun _ => hfull
  · next hroom => exact fun hmarked => absurd (h hmarked) hroom

theorem SampleRecord.worst_address_isSome (r : SampleRecord) (c : HistogramConfig) :
    (r.worst c).address.isSome = c.keepAddress := by
  cases h : c.keepAddress <;> simp [SampleRecord.worst, h]

theorem Histogram.take_worst (h : Histogram) (r : SampleRecord) :
    (h.take r).worst = h.worst ∨ (h.take r).worst = some (r.worst h.config) :=
  (ite_eq_or_eq _ (some (r.worst h.config)) h.worst).symm

/-- A sample marks only a full bin, and a record that it makes follows the keep-address setting (R143, R144). -/
theorem UnitLaw.sample (h : UnitLaw u) (r : SampleRecord) : UnitLaw (u.sample r) := by
  unfold AccountingUnit.sample
  split
  · refine ⟨h.countersWf, h.boundariesAscend, fun i => ?_, fun w hw => ?_⟩
    · simp only [Histogram.take, setAt_fin]
      split
      · exact Bin.take_marked (h.markedFull _)
      · exact h.markedFull i
    · obtain hkeep | hnew := Histogram.take_worst u.histogram r
      · exact h.worstAddress w (hkeep ▸ hw)
      · obtain rfl := Option.some.inj (hnew.symm.trans hw)
        exact SampleRecord.worst_address_isSome r _
  · exact h

theorem UnitLaw.withDue (h : UnitLaw u) (d : Option SampleRecord) : UnitLaw { u with sampleDue := d } :=
  ⟨h.countersWf, h.boundariesAscend, h.markedFull, h.worstAddress⟩

theorem UnitLaw.settle (h : UnitLaw u) : UnitLaw u.settle := by
  unfold AccountingUnit.settle
  split
  · exact (h.withDue none).sample _
  · exact h

theorem clearBins_fin (i : Fin 8) : clearBins[i] = { count := 0, saturated := false } := by
  simp [clearBins]

/-- A cleared histogram under a configuration with ascending boundaries. -/
theorem UnitLaw.histogram (h : UnitLaw u) {c : HistogramConfig} (hascend : ascending c.boundaries = true) :
    UnitLaw { u with histogram := { config := c, bins := clearBins, worst := none } } := by
  refine ⟨h.countersWf, hascend, fun i hi => ?_, fun r hr => by cases hr⟩
  have hbin : clearBins[i].saturated = true := hi
  rw [clearBins_fin] at hbin
  cases hbin

theorem UnitLaw.counters (h : UnitLaw u) {v : Vector Counter 8}
    (hv : ∀ i : CounterIx, v[i].config = u.counters[i].config ∨ v[i].config.wf) : UnitLaw { u with counters := v } := by
  refine ⟨fun i => ?_, h.boundariesAscend, h.markedFull, h.worstAddress⟩
  obtain heq | hwf := hv i
  · show v[i].config.wf
    rw [heq]
    exact h.countersWf i
  · exact hwf

theorem UnitLaw.withState (h : UnitLaw u) (a : AccountingState) : UnitLaw { u with state := a } :=
  ⟨h.countersWf, h.boundariesAscend, h.markedFull, h.worstAddress⟩

theorem UnitLaw.clearedBy (h : UnitLaw u) (o : CaptureOptions) : UnitLaw (u.clearedBy o) := by
  have hcounters : UnitLaw { u with counters := if o.clearCounters then mapAll Counter.cleared u.counters else u.counters } := by
    refine h.counters fun i => .inl ?_
    split
    · rw [mapAll_fin]; rfl
    · rfl
  unfold AccountingUnit.clearedBy
  cases o.clearHistogram with
  | false => exact hcounters
  | true => exact hcounters.histogram h.boundariesAscend

/-! ### The operations on the books -/

theorem BooksLaw.of_same (h : BooksLaw s) (haccounting : t.accounting = s.accounting) (hcapture : t.capture = s.capture) :
    BooksLaw t := by
  refine ⟨?_, ?_⟩
  · rw [haccounting]; exact h.unit
  · rw [hcapture]; exact h.queue

theorem BooksLaw.withAccounting (h : BooksLaw s) {u : AccountingUnit} (hu : UnitLaw u) : BooksLaw (s.withAccounting u) :=
  ⟨hu, h.queue⟩

theorem BooksLaw.sample (h : BooksLaw s) (r : SampleRecord) : BooksLaw (s.sample r) := ⟨h.unit.sample r, h.queue⟩

theorem BooksLaw.settleSample (h : BooksLaw s) : BooksLaw s.settleSample := ⟨h.unit.settle, h.queue⟩

theorem BooksLaw.withSticky (h : BooksLaw s) (f : StickyCauses → StickyCauses) : BooksLaw (s.withSticky f) :=
  h.of_same rfl rfl

theorem BooksLaw.captureAttempt (h : BooksLaw s) (k : CaptureCause) (n : Option (BitVec 32)) (b : Vector Int 16) :
    BooksLaw (s.captureAttempt k n b) := by
  unfold State.captureAttempt
  split
  · exact ⟨h.unit, ⟨h.queue.recordsBound, Nat.min_le_left .., h.queue.periodBound, h.queue.periodicBound⟩⟩
  · next hroom =>
    refine ⟨h.unit.clearedBy _, ⟨?_, Nat.zero_le _, h.queue.periodBound, h.queue.periodicBound⟩⟩
    simp only [Config.captureCapacity, not_le] at hroom
    simpa using hroom

theorem BooksLaw.freezeBy (h : BooksLaw s) (i : CounterIx) : BooksLaw (s.freezeBy i) := by
  have hfrozen : BooksLaw ((s.withBooks { s.books with
      accounting := { s.accounting with state := .frozen (.counter i) } }).withSticky fun c => { c with freeze := true }) :=
    ⟨h.unit.withState _, h.queue⟩
  unfold State.freezeBy
  dsimp only
  split
  · exact hfrozen.captureAttempt _ _ _
  · exact hfrozen

theorem BooksLaw.count (h : BooksLaw s) {f : Counter → Counter × Bool} (hf : ∀ c, (f c).1.config = c.config) :
    BooksLaw (s.count f) := by
  have hcounters : BooksLaw (s.withBooks { s.books with
      accounting := { s.accounting with counters := mapAll Prod.fst (mapAll f s.accounting.counters) } }) := by
    refine ⟨h.unit.counters fun i => .inl ?_, h.queue⟩
    rw [mapAll_fin, mapAll_fin, hf]
  unfold State.count
  cases s.accounting.state with
  | frozen => exact h.of_same rfl rfl
  | counting =>
    dsimp only
    split
    · exact hcounters.of_same rfl rfl
    · exact (hcounters.freezeBy _).of_same rfl rfl

theorem BooksLaw.countEvent (h : BooksLaw s) {f : Counter → Counter × Bool} (hf : ∀ c, (f c).1.config = c.config) :
    BooksLaw (s.countEvent f) := h.settleSample.count hf

theorem BooksLaw.emit (h : BooksLaw s) (ns : List Notice) : BooksLaw (s.emit ns) := by
  induction ns generalizing s with
  | nil => exact h
  | cons n ns ih =>
    rw [State.emit_cons]
    exact ih (h.countEvent (Counter.takeNotice_config n))

theorem BooksLaw.periodicCapture (h : BooksLaw s) (r : WindowReport) : BooksLaw (s.periodicCapture r) := by
  have hcount := h.queue.periodicBound
  unfold State.periodicCapture
  split
  · exact h
  · split
    · refine BooksLaw.captureAttempt ?_ _ _ _
      exact ⟨h.unit, ⟨h.queue.recordsBound, h.queue.missedBound, h.queue.periodBound, .inl rfl⟩⟩
    · refine ⟨h.unit, ⟨h.queue.recordsBound, h.queue.missedBound, h.queue.periodBound, .inr ?_⟩⟩
      dsimp only
      omega

theorem BooksLaw.takeReport (h : BooksLaw s) (r : WindowReport) : BooksLaw (s.takeReport r) :=
  (h.countEvent (Counter.takeReport_config r)).periodicCapture r

theorem BooksLaw.windowStart (h : BooksLaw s) : BooksLaw s.windowStart := by
  unfold State.windowStart
  dsimp only
  split
  · refine BooksLaw.takeReport ?_ _
    exact ⟨h.unit, h.queue⟩
  · exact ⟨h.unit, h.queue⟩

theorem BooksLaw.attempt (h : BooksLaw s) (r : Request) : BooksLaw (s.attempt r) := by
  obtain ⟨i, -, heq⟩ | ⟨k, i, -, heq⟩ | ⟨i, -, heq⟩ := s.attempt_cases r <;> rw [heq]
  · unfold State.stall
    split
    · exact h.of_same rfl rfl
    · refine BooksLaw.emit ?_ _
      exact h.of_same rfl rfl
  · refine BooksLaw.emit ?_ _
    exact h.of_same rfl rfl
  · refine BooksLaw.emit ?_ _
    exact h.of_same rfl rfl

theorem BooksLaw.retry (h : BooksLaw s) : BooksLaw s.retry := by
  obtain ⟨r, i, -, heq⟩ | ⟨-, heq⟩ := s.retry_cases <;> rw [heq]
  · exact h.attempt r
  · exact h

theorem UnitLaw.reset : UnitLaw AccountingUnit.reset := by
  refine ⟨fun i => ?_, by decide, fun i hi => ?_, by simp [AccountingUnit.reset, Histogram.reset]⟩
  · simp [AccountingUnit.reset, Counter.reset, CounterConfig.wf]
  · have hbin : AccountingUnit.reset.histogram.bins[i] = { count := 0, saturated := false } := clearBins_fin i
    rw [hbin] at hi
    cases hi

theorem QueueLaw.reset : QueueLaw CaptureQueue.reset := ⟨by decide, by decide, by decide, .inl rfl⟩

theorem BooksLaw.of_reset (haccounting : t.accounting = .reset) (hcapture : t.capture = .reset) : BooksLaw t := by
  refine ⟨?_, ?_⟩
  · rw [haccounting]; exact .reset
  · rw [hcapture]; exact .reset

/-! ### The management port -/

theorem PortInv.of_same (h : PortInv s) (hmgmt : t.mgmt = s.mgmt) (hrst : t.rst = s.rst) : PortInv t := by
  refine ⟨?_, ?_, ?_, ?_⟩
  · rw [hmgmt]; exact h.heldSequence
  · rw [hmgmt]; exact h.heldData
  · rw [hmgmt, hrst]; exact h.receiving
  · rw [hmgmt]; exact h.fresh

/-- The end of a frame, with the held response kept. -/
theorem PortInv.idle (h : PortInv s) (hidle : t.mgmt.rx = .idle) (hheld : t.mgmt.held = s.mgmt.held)
    (hsequence : t.mgmt.sequence = s.mgmt.sequence) : PortInv t := by
  refine ⟨?_, ?_, fun hrx => absurd hidle hrx, ?_⟩
  · rw [hheld, hsequence]; exact h.heldSequence
  · rw [hheld]; exact h.heldData
  · rw [hheld]; exact h.fresh

theorem PortInv.answered (s : State) {code : Byte} {st : Status} {d : List Byte} (hlen : d.length ≤ 64)
    (hst : st ≠ .fresh) : PortInv (s.answered code st d) :=
  ⟨rfl, hlen, fun hrx => absurd rfl hrx, fun hfresh => absurd hfresh hst⟩

theorem PortInv.powerOn (s : State) : PortInv s.powerOn :=
  ⟨rfl, Nat.zero_le _, fun hrx => absurd rfl hrx, fun _ => rfl⟩

/-! ### The laws of the unit together -/

/-- The laws of the window generator, the accounting unit with the capture queue, and the management port. -/
structure UnitInv (s : State) : Prop where
  window : WindowInv s.window
  accounting : AccountingInv s
  port : PortInv s

theorem UnitInv.due (h : UnitInv s) : DueLaw s := (accountingInv_iff.mp h.accounting).1

theorem UnitInv.books (h : UnitInv s) : BooksLaw s := (accountingInv_iff.mp h.accounting).2

theorem UnitInv.of_laws (hwindow : WindowInv s.window) (hdue : DueLaw s) (hbooks : BooksLaw s) (hport : PortInv s) :
    UnitInv s := ⟨hwindow, accountingInv_iff.mpr ⟨hdue, hbooks⟩, hport⟩

/-- An operation that keeps the pins, the port and the window generator, and the laws of the books. -/
theorem UnitInv.of_books (h : UnitInv s) (hwindow : t.window = s.window) (hmgmt : t.mgmt = s.mgmt) (hrst : t.rst = s.rst)
    (hdue : t.KeepsDue s) (hbooks : BooksLaw t) : UnitInv t := by
  refine .of_laws ?_ (h.due.of_keepsDue hdue ?_) hbooks (h.port.of_same hmgmt hrst)
  · rw [hwindow]; exact h.window
  · simp only [State.inFrame, hmgmt, hrst]

theorem UnitInv.of_same (h : UnitInv s) (hwindow : t.window = s.window) (hmgmt : t.mgmt = s.mgmt) (hrst : t.rst = s.rst)
    (haccounting : t.accounting = s.accounting) (hcapture : t.capture = s.capture) : UnitInv t :=
  h.of_books hwindow hmgmt hrst (.inr (congrArg _ haccounting)) (h.books.of_same haccounting hcapture)

theorem UnitInv.withWindow (h : UnitInv s) {w : WindowGen} (hw : WindowInv w) : UnitInv (s.withWindow w) :=
  .of_laws hw h.due (h.books.of_same rfl rfl) (h.port.of_same rfl rfl)

theorem UnitInv.emit (h : UnitInv s) (ns : List Notice) : UnitInv (s.emit ns) :=
  h.of_books (by simp) (by simp) (by simp) (State.emit_keepsDue ns) (h.books.emit ns)

theorem UnitInv.attempt (h : UnitInv s) (r : Request) : UnitInv (s.attempt r) :=
  h.of_books (by simp) (by simp) (by simp) (State.attempt_keepsDue r) (h.books.attempt r)

theorem UnitInv.retry (h : UnitInv s) : UnitInv s.retry :=
  h.of_books (by simp) (by simp) (by simp) State.retry_keepsDue h.books.retry

theorem UnitInv.settleSample (h : UnitInv s) : UnitInv s.settleSample :=
  h.of_books rfl rfl rfl (.inl (by simp)) h.books.settleSample

theorem UnitInv.windowStart (h : UnitInv s) : UnitInv s.windowStart := by
  refine .of_laws ?_ (h.due.of_keepsDue State.windowStart_keepsDue ?_) h.books.windowStart (h.port.of_same ?_ ?_)
  · rw [State.windowStart_window]
    exact h.window.start s.window.startDue
  · simp [State.inFrame]
  · simp
  · simp

theorem UnitInv.takeDueStart (h : UnitInv s) : UnitInv s.takeDueStart := by
  obtain ⟨-, -, heq⟩ | ⟨-, heq⟩ := s.takeDueStart_cases <;> rw [heq]
  · have hbooks : BooksLaw { s with window := { s.window with startDue := false } } := h.books.of_same rfl rfl
    refine .of_laws ?_ (h.due.of_keepsDue (State.windowStart_keepsDue.trans (.inr rfl)) ?_) hbooks.windowStart
      (h.port.of_same ?_ ?_)
    · rw [State.windowStart_window]
      exact h.window.start false
    · simp [State.inFrame]
    · simp
    · simp
  · exact h

/-- Once a due start is taken none is due: one is due only while RUNNING (R36, R37). -/
theorem WindowInv.takeDueStart_startDue (h : WindowInv s.window) : s.takeDueStart.window.startDue = false := by
  obtain ⟨-, -, heq⟩ | ⟨hno, heq⟩ := s.takeDueStart_cases <;> rw [heq]
  · rw [State.windowStart_window]; rfl
  · cases hrunning : s.window.running with
    | false => exact (h.stopped hrunning).2.1
    | true => exact Bool.eq_false_of_not_eq_true fun hdue => hno ⟨hdue, hrunning⟩

theorem UnitInv.expire (h : UnitInv s) : UnitInv s.expire :=
  h.of_same (by simp) (by simp) (by simp) (by simp) (by simp)

theorem UnitInv.microtick (h : UnitInv s) : UnitInv (s.settle.withWindow s.settle.window.tick) := by
  have hstart := h.takeDueStart
  have hsettled := hstart.withWindow hstart.window.settlePhases
  refine hsettled.expire.withWindow ?_
  show WindowInv (State.expire _).window.tick
  rw [State.expire_window]
  exact hsettled.window.tick h.window.takeDueStart_startDue WindowGen.settledPhases_settled.symm

/-! ### Commands -/

theorem UnitInv.served (h : UnitInv s) {r : Reply} (hr : Served s r) : WindowInv r.state.window ∧ BooksLaw r.state := by
  have hbooks := h.books
  cases hr
  case softReset => exact ⟨.reset, .of_reset rfl rfl⟩
  case window w hset => exact ⟨h.window.set hset, hbooks.of_same rfl rfl⟩
  case windowStart => exact ⟨h.windowStart.window, hbooks.windowStart⟩
  case streamWrite i fields treatment regulation _ _ _ =>
    have hset : UnitInv (s.setStream i (s.streams[i].written fields treatment regulation)) :=
      h.of_same rfl rfl rfl rfl rfl
    exact ⟨hset.retry.window, hset.retry.books⟩
  case streamDelete i _ _ =>
    have hset : UnitInv (s.setStream i s.streams[i].deleted) := h.of_same rfl rfl rfl rfl rfl
    exact ⟨hset.retry.window, hset.retry.books⟩
  case purge i d hlen =>
    have hpurged : UnitInv (s.purge i) := by
      refine UnitInv.emit ?_ _
      exact h.of_same rfl rfl rfl rfl rfl
    exact ⟨hpurged.retry.window, hpurged.retry.books⟩
  case counters v hconfig => exact ⟨h.window, hbooks.withAccounting (hbooks.unit.counters hconfig)⟩
  case accountingState a => exact ⟨h.window, hbooks.withAccounting (hbooks.unit.withState a)⟩
  case histogram c hconfig =>
    have hascend : ascending c.boundaries = true := by
      obtain rfl | hascend := hconfig
      · exact hbooks.unit.boundariesAscend
      · exact hascend
    exact ⟨h.window, hbooks.withAccounting (hbooks.unit.histogram hascend)⟩
  case captureSet o k hperiod =>
    exact ⟨h.window, hbooks.unit, ⟨hbooks.queue.recordsBound, hbooks.queue.missedBound, hperiod, .inl rfl⟩⟩
  case captureNow => exact ⟨h.window, hbooks.captureAttempt ..⟩
  case captureRelease r rest hrecords d hlen =>
    have hbound := hbooks.queue.recordsBound
    rw [hrecords, List.length_cons] at hbound
    exact ⟨h.window, hbooks.unit,
      ⟨show rest.length ≤ 4 by omega, hbooks.queue.missedBound, hbooks.queue.periodBound, hbooks.queue.periodicBound⟩⟩
  all_goals exact ⟨h.window, hbooks.of_same rfl rfl⟩

theorem UnitInv.serve (h : UnitInv s) (hdue : s.accounting.sampleDue = none) {code : Byte} {owner : State → Reply}
    (howner : ∀ t, Served t (owner t)) : UnitInv (s.serve code owner) := by
  obtain ⟨hwindow, hbooks⟩ := h.served (howner s)
  obtain ⟨hlen, hstatus, -⟩ := (howner s).answer
  have hnone : (owner s).state.accounting.sampleDue = none := by
    obtain hn | hn := (howner s).keepsDue
    · exact hn
    · exact hn.trans hdue
  refine .of_laws hwindow (.of_none hnone) (hbooks.of_same rfl rfl) (PortInv.answered _ hlen ?_)
  intro hfresh
  rw [hfresh] at hstatus
  simp at hstatus

theorem UnitInv.sample (h : UnitInv s) (r : SampleRecord) : UnitInv (s.sample r) :=
  h.of_books rfl rfl rfl (.inr (by simp)) (h.books.sample r)

theorem UnitInv.drawOrder (h : UnitInv s) : UnitInv s.drawOrder :=
  h.of_books rfl rfl rfl (.inl rfl) ⟨h.books.unit.withDue none, h.books.queue⟩

/-- A frame ends without an owner: no sample is due by then. -/
theorem UnitInv.deselect (h : UnitInv s) (hdue : s.accounting.sampleDue = none) : UnitInv s.deselect :=
  .of_laws h.window (.of_none hdue) (h.books.of_same rfl rfl) (h.port.idle rfl rfl rfl)

theorem UnitInv.sampleDue_of_not_inFrame (h : UnitInv s) (hframe : s.inFrame = false) :
    s.accounting.sampleDue = none := by
  by_contra hsome
  rw [h.due hsome] at hframe
  cases hframe

theorem UnitInv.runCommand (h : UnitInv s) {code : Byte} {owner : State → Reply} (howner : ∀ t, Served t (owner t)) :
    UnitInv (s.runCommand code owner) := by
  obtain ⟨hno, heq⟩ | ⟨-, heq⟩ | ⟨r, -, -, heq | heq⟩ := s.runCommand_cases code owner <;> rw [heq]
  · exact h.deselect (h.sampleDue_of_not_inFrame hno)
  · exact h.settleSample.serve (by simp) howner
  · exact (h.drawOrder.serve rfl howner).sample r
  · exact (h.drawOrder.sample r).serve (by simp) howner

theorem UnitInv.exec_command (h : UnitInv s) {c : Instr} (hc : isCommand c = true)
    (ht : Machine.exec c s = .next t) : UnitInv t := by
  obtain ⟨code, owner, hexec, howner⟩ := hasOwner_of_isCommand hc
  rw [hexec] at ht
  cases ht
  exact h.runCommand howner

theorem UnitInv.frameFailed (h : UnitInv s) (code : Byte) (e : FrameError) : UnitInv (s.frameFailed code e) := by
  refine .of_laws h.window (.of_none ?_) (h.settleSample.books.of_same rfl rfl) (PortInv.answered _ (Nat.zero_le _) ?_)
  · exact AccountingUnit.settle_sampleDue _
  · cases e <;> simp [frameErrorStatus]

theorem UnitInv.exec_frameError (h : UnitInv s) {bits : List Bool}
    (ht : Machine.exec (.frameError bits) s = .next t) : UnitInv t := by
  replace ht : execFrameError bits s = .next t := ht
  obtain ⟨hno, heq⟩ | ⟨-, -, heq | ⟨code, e, heq⟩ | ⟨c, hc, heq⟩⟩ := execFrameError_cases bits s
  · rw [heq] at ht; cases ht
    exact h.deselect (h.sampleDue_of_not_inFrame hno)
  · rw [heq] at ht; cases ht
    exact h.settleSample.deselect (by simp)
  · rw [heq] at ht; cases ht
    exact h.frameFailed code e
  · rw [heq] at ht
    exact h.exec_command hc ht

/-! ### Events -/

theorem UnitInv.intake (h : UnitInv s) (r : SouthResponse) : UnitInv (s.intake r) := by
  have hstray : UnitInv s.strayDrop := by
    refine UnitInv.emit ?_ _
    exact h.of_same rfl rfl rfl rfl rfl
  unfold State.intake
  dsimp only
  split
  · exact hstray
  · split
    · exact hstray
    · split
      · refine UnitInv.emit ?_ _
        exact h.of_same rfl rfl rfl rfl rfl
      · exact h.settleSample.of_same rfl rfl rfl rfl rfl

theorem UnitInv.handSample (h : UnitInv s) (r : SampleRecord) : UnitInv (s.handSample r) := by
  obtain ⟨hframe, heq⟩ | ⟨-, heq⟩ := s.handSample_cases r <;> rw [heq]
  · exact .of_laws h.window (fun _ => hframe) ⟨h.books.unit.withDue _, h.books.queue⟩ (h.port.of_same rfl rfl)
  · exact h.sample r

theorem UnitInv.forward (h : UnitInv s) (c : Candidate) (g : SlotStage) (q : SlotRequest) :
    UnitInv (s.forward c g q) := by
  refine UnitInv.handSample (UnitInv.emit ?_ _) _
  exact h.of_same rfl rfl rfl rfl rfl

theorem UnitInv.redropCandidate (h : UnitInv s) : UnitInv s.redropCandidate.1 := by
  rw [State.redropCandidate_eq]
  exact h.of_same rfl rfl rfl rfl rfl

theorem UnitInv.timeOut (h : UnitInv s) (i : SlotIx) (q : SlotRequest) : UnitInv (s.timeOut i q) := by
  unfold State.timeOut
  dsimp only
  split
  · refine UnitInv.emit (UnitInv.redropCandidate ?_) _
    exact h.of_same rfl rfl rfl rfl rfl
  · refine UnitInv.emit ?_ _
    exact h.of_same rfl rfl rfl rfl rfl

theorem UnitInv.sendOwed (h : UnitInv s) (e : PendingEntry) (k : ReplyKind) : UnitInv (s.sendOwed e k) := by
  refine UnitInv.retry ?_
  exact h.settleSample.of_same rfl rfl rfl rfl rfl

theorem UnitInv.issueTo (h : UnitInv s) (e : PendingEntry) (i : SlotIx) : UnitInv (s.issueTo e i) := by
  refine UnitInv.retry (UnitInv.emit ?_ _)
  exact h.of_same rfl rfl rfl rfl rfl

theorem UnitInv.linkReset (h : UnitInv s) : UnitInv s.linkReset := by
  have hemptied : UnitInv s.linkEmptied := h.settleSample.of_same rfl rfl rfl rfl rfl
  exact hemptied.redropCandidate.emit _

theorem UnitInv.rstAsserted (h : UnitInv s) (p : NorthPort) :
    UnitInv { s.settleSample with rst := true, port := p, mgmt := { s.mgmt with rx := .idle, miso := .ones } } :=
  .of_laws h.window (.of_none (AccountingUnit.settle_sampleDue _)) (h.settleSample.books.of_same rfl rfl)
    (h.port.idle rfl rfl rfl)

theorem UnitInv.powerOn (s : State) : UnitInv s.powerOn :=
  .of_laws .reset (.of_none rfl) (.of_reset rfl rfl) (.powerOn s)

/-- A frame begins: with SEL_N high none was in progress, so that no sample is due under RST_N. -/
theorem UnitInv.frameBegun (h : UnitInv s) (hrst : s.rst = false) :
    UnitInv { s with mgmt := { s.mgmt with
      selected := true, rx := .receiving RxBuffer.empty, miso := .response s.mgmt.held.bytes } } :=
  .of_laws h.window (fun _ => by simp [State.inFrame, hrst]) (h.books.of_same rfl rfl)
    ⟨h.port.heldSequence, h.port.heldData, fun _ => ⟨hrst, rfl, rfl, rfl⟩, h.port.fresh⟩

theorem UnitInv.frameBegunUnderRst (h : UnitInv s) (hrst : s.rst = true) :
    UnitInv { s with mgmt := { s.mgmt with selected := true, rx := .idle, miso := .ones } } :=
  .of_laws h.window (.of_none (h.sampleDue_of_not_inFrame (by simp [State.inFrame, hrst]))) (h.books.of_same rfl rfl)
    (h.port.idle rfl rfl rfl)

theorem UnitInv.exec_event (h : UnitInv s) {c : Instr} (hc : isCommand c = false)
    (ht : Machine.exec c s = .next t) : UnitInv t := by
  cases c
  case frameError bits => exact h.exec_frameError ht
  all_goals try cases hc
  all_goals cases ht
  case arrival m =>
    split
    · exact h
    · split
      · exact h.attempt _
      · exact h
  case issue =>
    split
    · exact h
    · split
      · exact h.issueTo ..
      · exact h
  case southResponseIntake m =>
    split
    · exact h
    · exact h.intake _
  case forwarding =>
    split
    · split
      · exact h.forward ..
      · exact h
    · exact h
  case timeoutReply =>
    split
    · split
      · exact h.timeOut ..
      · exact h
    · exact h
  case owedReply =>
    split
    · split
      · split
        · exact h.sendOwed ..
        · exact h
      · exact h
    · exact h
  case microtick =>
    split
    · exact h
    · exact h.settleSample.microtick
  case expiry =>
    split
    · exact h
    · exact h.settleSample.expire
  case windowStartEvent =>
    split
    · exact h
    · exact h.takeDueStart
  case phaseOpen ch =>
    split
    · next hdue => exact h.settleSample.withWindow (h.window.opened (Bool.and_eq_true_iff.mp hdue).2)
    · exact h
  case phaseClose ch =>
    split
    · next hdue => exact h.settleSample.withWindow (h.window.closed (Bool.and_eq_true_iff.mp hdue).2)
    · exact h
  case nlrstAssert =>
    split
    · exact h
    · split
      · exact h.of_same rfl rfl rfl rfl rfl
      · exact h.linkReset
  case nlrstRelease =>
    split
    · exact h
    · split
      · exact h.of_same rfl rfl rfl rfl rfl
      · exact h.settleSample.of_same rfl rfl rfl rfl rfl
  case rstAssert =>
    split
    · exact h
    · exact h.rstAsserted _
  case rstRelease =>
    split
    · exact .powerOn _
    · exact h
  case frameIgnored | nop => exact h.settleSample.deselect (by simp)
  case selFallingEdge =>
    split
    · exact h
    · split
      · next hrst => exact h.frameBegunUnderRst hrst
      · next hrst => exact h.frameBegun (Bool.eq_false_of_not_eq_true hrst)

/-! ### The state after reset -/

theorem Inv.reset : Inv State.reset where
  traffic := .of_reset rfl rfl rfl rfl rfl rfl
  streams := StreamLaw.of_notStalled (.of_reset rfl rfl) fun _ _ hp => by cases hp
  window := .reset
  accounting := accountingInv_iff.mpr ⟨.of_none rfl, .of_reset rfl rfl⟩
  port := ⟨rfl, Nat.zero_le _, fun hrx => absurd rfl hrx, fun _ => rfl⟩

end Sys2Proof.Machine

namespace Sys2Proof

/-- Settles O59: every command keeps the laws of the three blocks together. -/
theorem stepKeepsUnitLaws : Obligations.StepKeepsUnitLaws := by
  unfold Obligations.StepKeepsUnitLaws
  intro s t hwindow haccounting hport hstep
  have h : Machine.UnitInv s := ⟨hwindow, haccounting, hport⟩
  suffices ht : Machine.UnitInv t from ⟨ht.window, ht.accounting, ht.port⟩
  obtain rfl | ⟨c, rest, -, hexec⟩ := Machine.step_cases hstep
  · exact h
  · have hqueue : Machine.UnitInv { s with pending := rest } := h.of_same rfl rfl rfl rfl rfl
    cases hc : Machine.isCommand c with
    | true => exact hqueue.exec_command hc hexec
    | false => exact hqueue.exec_event hc hexec

/-- Settles O60: the laws of each block at its values of reset. -/
theorem resetKeepsEveryLaw : Obligations.ResetKeepsEveryLaw := Machine.Inv.reset

end Sys2Proof
end

section
/-! Arrivals (R71 to R76): what the message link offers is one admission attempt at an ACCEPTING port, and nothing at
any other. -/

namespace Sys2Proof.Machine

variable {s : State}

theorem State.lacksRoom_iff {r : Request} {i : StreamIx} :
    s.lacksRoom r i = true ↔
      s.streams[i].holdLimit ≤ s.waitingCount i ∨ (r.kind = .write ∧ s.poolFree < r.beats.toNat) := by
  simp [State.lacksRoom, -Fin.getElem_fin]

/-! ### The three outcomes at an ACCEPTING port -/

theorem exec_arrival_of_accepting {m : LinkMessage} (hrst : s.rst = false) (hport : s.port = .accepting) :
    exec (.arrival m) s = .next (s.attempt (Request.ofMessage m)) := by
  have harm : exec (.arrival m) s = execArrival m s := rfl
  simp [harm, execArrival, hrst, hport]

theorem exec_arrival_of_closed {m : LinkMessage} (h : s.rst = true ∨ s.port ≠ .accepting) :
    exec (.arrival m) s = .next s := by
  have harm : exec (.arrival m) s = execArrival m s := rfl
  rw [harm, execArrival]
  obtain hrst | hport := h
  · simp [hrst]
  · cases hp : s.port with
    | accepting => exact absurd hp hport
    | stalled | linkReset => simp

theorem State.attempt_of_enter {r : Request} {i : StreamIx} (h : s.verdict r = .enter i) :
    s.attempt r = s.admitWaiting r i := by
  rw [State.attempt, h]

theorem State.attempt_of_owe {r : Request} {k : ReplyKind} {i : StreamIx} (h : s.verdict r = .owe k i) :
    s.attempt r = s.admitOwed r k i := by
  rw [State.attempt, h]

theorem State.attempt_of_stall {r : Request} {i : StreamIx} (h : s.verdict r = .stall i) :
    s.attempt r = s.stall r i := by
  rw [State.attempt, h]

theorem State.admitWaiting_of_accepting (r : Request) (i : StreamIx) (hport : s.port = .accepting) :
    s.admitWaiting r i =
      ({ s with entries := s.entries ++ [s.entryFor r .waiting i], nextId := s.nextId + 1 } : State).takeNotice
        { event := .arrive, stream := some i, quantity := bytesOf r.beats } := by
  rw [State.admitWaiting, ← hport]; rfl

theorem State.admitOwed_of_accepting (r : Request) (k : ReplyKind) (i : StreamIx) (hport : s.port = .accepting) :
    s.admitOwed r k i =
      ({ s with
          entries := s.entries ++ [s.entryFor r (.replyOwed k) i]
          nextId := s.nextId + 1
          replyOrder := s.replyOrder ++ [.entry s.nextId] } : State).takeNotice (owedNotice r i k) := by
  rw [State.admitOwed, ← hport]; rfl

theorem State.stall_of_accepting (r : Request) (i : StreamIx) (hport : s.port = .accepting) :
    s.stall r i =
      (({ s with port := .stalled r i } : State).withSticky fun c => { c with stall := true }).takeNotice
        { event := .stall, stream := some i, quantity := 0 } := by
  rw [State.stall, hport]; rfl

theorem State.stall_of_stalled (r : Request) (i : StreamIx) {r' : Request} {j : StreamIx}
    (hport : s.port = .stalled r' j) : s.stall r i = { s with port := .stalled r i } := by
  rw [State.stall, hport]

/-! ### The levels of one more entry -/

/-- A WAITING entry behind the others raises its stream's count by 1 and no other. -/
theorem waitingCount_append_waiting {t : State} {e : PendingEntry} (h : t.entries = s.entries ++ [e])
    (hwaiting : e.state = .waiting) (i : StreamIx) :
    t.waitingCount i = s.waitingCount i + if e.stream = i then 1 else 0 := by
  simp [State.waitingCount, h, List.countP_append, List.countP_singleton, PendingEntry.isWaiting, hwaiting]

theorem poolInUse_append {t : State} {e : PendingEntry} (h : t.entries = s.entries ++ [e]) :
    t.poolInUse = s.poolInUse + e.poolBeats := by
  simp [State.poolInUse, h]

/-- A REPLY_OWED entry behind the others is in no WAITING count. -/
theorem waitingCount_append_owed {t : State} {e : PendingEntry} (h : t.entries = s.entries ++ [e])
    {k : ReplyKind} (howed : e.state = .replyOwed k) (i : StreamIx) : t.waitingCount i = s.waitingCount i := by
  simp [State.waitingCount, h, List.countP_append, PendingEntry.isWaiting, howed]

/-! ### A retry -/

/-- An attempt that does not stall leaves the port ACCEPTING. -/
theorem State.attempt_port_of_taken {r : Request} (h : ∀ j, s.verdict r ≠ .stall j) :
    (s.attempt r).port = .accepting := by
  obtain ⟨i, hv, -⟩ | ⟨k, i, -, heq⟩ | ⟨i, -, heq⟩ := s.attempt_cases r
  · exact absurd hv (h i)
  · rw [heq, State.admitOwed, State.emit_eq]; rfl
  · rw [heq, State.admitWaiting, State.emit_eq]; rfl

/-- What an attempt decides does not read the port, and what it does when it does not stall does not either. -/
theorem State.attempt_of_taken_accepting {r : Request} (h : ∀ j, s.verdict r ≠ .stall j) :
    ({ s with port := .accepting } : State).attempt r = s.attempt r := by
  have hv : ({ s with port := .accepting } : State).verdict r = s.verdict r := rfl
  obtain ⟨i, hi, -⟩ | ⟨k, i, hi, heq⟩ | ⟨i, hi, heq⟩ := s.attempt_cases r
  · exact absurd hi (h i)
  · rw [heq, State.attempt_of_owe (hv.trans hi)]; rfl
  · rw [heq, State.attempt_of_enter (hv.trans hi)]; rfl

theorem State.retry_of_stalled {r : Request} {i : StreamIx} (h : s.port = .stalled r i) : s.retry = s.attempt r := by
  rw [State.retry, h]

end Sys2Proof.Machine

namespace Sys2Proof

open Machine

/-- Settles O3: the verdict on a request with room, and the levels of one more WAITING entry. -/
theorem arrivalIsAdmittedWaiting : Obligations.ArrivalIsAdmittedWaiting := by
  unfold Obligations.ArrivalIsAdmittedWaiting
  intro m s r i hrst hport hroom hshape hlimit hpool
  have hverdict : s.verdict r = .enter i :=
    s.verdict_room hroom hshape (State.lacksRoom_eq_false_iff.mpr ⟨hlimit, hpool⟩)
  refine ⟨_, ?_, rfl, ?_, fun j hj => ?_, ?_⟩
  · rw [exec_arrival_of_accepting hrst hport, State.attempt_of_enter hverdict,
      State.admitWaiting_of_accepting r i hport]
    rfl
  · rw [waitingCount_append_waiting (State.takeNotice_entries ..) rfl, if_pos rfl]
  · rw [waitingCount_append_waiting (State.takeNotice_entries ..) rfl, if_neg (Ne.symm hj)]; rfl
  · rw [poolInUse_append (State.takeNotice_entries ..)]
    simp [PendingEntry.poolBeats, PendingEntry.isWaiting]

/-- Settles O4: the verdicts on a malformed request and on one without room under REFUSE. -/
theorem arrivalIsOwedReply : Obligations.ArrivalIsOwedReply := by
  unfold Obligations.ArrivalIsOwedReply
  intro m s r i owed hrst hport hroom
  refine ⟨fun hshape => ?_, fun hshape hfull hpolicy => ?_, fun k j q e => ⟨?_, fun n => ?_⟩⟩
  · rw [exec_arrival_of_accepting hrst hport, State.attempt_of_owe (s.verdict_malformed hroom hshape),
      State.admitOwed_of_accepting r _ _ hport]
    rfl
  · have hverdict : s.verdict r = .owe .refused i := by
      rw [s.verdict_noRoom hroom hshape (State.lacksRoom_iff.mpr hfull), hpolicy]
    rw [exec_arrival_of_accepting hrst hport, State.attempt_of_owe hverdict, State.admitOwed_of_accepting r _ _ hport]
    rfl
  · rw [poolInUse_append (State.takeNotice_entries ..)]; rfl
  · exact waitingCount_append_owed (State.takeNotice_entries ..) rfl n

/-- Settles O5: the verdicts on a request at a full list and on one without room under STALL. -/
theorem arrivalStalls : Obligations.ArrivalStalls := by
  unfold Obligations.ArrivalStalls
  intro m s r i stalled hrst hport
  have hstalled : ∀ j, s.verdict r = .stall j → exec (.arrival m) s = .next (stalled j) := fun j hv => by
    rw [exec_arrival_of_accepting hrst hport, State.attempt_of_stall hv, State.stall_of_accepting r j hport]
    rfl
  refine ⟨fun hfull => hstalled _ (s.verdict_full hfull), fun hroom hshape hfull hpolicy => hstalled i ?_⟩
  rw [s.verdict_noRoom hroom hshape (State.lacksRoom_iff.mpr hfull), hpolicy]

/-- Settles O6: an attempt reads the port only to tell a first stall from a repeated one. -/
theorem retryIsAFreshAttempt : Obligations.RetryIsAFreshAttempt := by
  unfold Obligations.RetryIsAFreshAttempt
  refine ⟨fun m i s hrst hport => ⟨fun htaken => ?_, fun j hv => ⟨?_, ?_⟩⟩, fun s hport => ?_⟩
  · rw [State.retry_of_stalled hport]
    refine ⟨?_, State.attempt_port_of_taken htaken⟩
    rw [exec_arrival_of_accepting (s := { s with port := .accepting }) hrst rfl, State.attempt_of_taken_accepting htaken]
  · rw [State.retry_of_stalled hport, State.attempt_of_stall hv, State.stall_of_stalled _ _ hport]
  · exact (s.verdict_stall hv).1
  · obtain ⟨r, i, hstalled, -⟩ | ⟨-, heq⟩ := s.retry_cases
    · exact absurd hstalled (hport r i)
    · exact heq

/-- Settles O9: the four tests of R3 to R6 in numbers. -/
theorem wellFormedRequestShape : Obligations.WellFormedRequestShape := by
  unfold Obligations.WellFormedRequestShape
  exact fun r => malformed_eq_false_iff

end Sys2Proof
end

section
/-! The issue arbiter and the issue (R68, R88, R90): the choice among the heads of READY streams is a fold over them in
list order, and what it keeps so far is the best of those already seen. -/

namespace Sys2Proof.Machine

variable {s : State}

/-- The head of a stream is its oldest WAITING entry (R68). -/
theorem State.head_iff {i : StreamIx} {e : PendingEntry} :
    s.head i = some e ↔
      ∃ older younger, s.entries = older ++ e :: younger ∧ e.state = .waiting ∧ e.stream = i ∧
        ∀ x ∈ older, ¬ (x.state = .waiting ∧ x.stream = i) := by
  rw [State.head, List.find?_eq_some_iff_append]
  simp only [Bool.and_eq_true, beq_iff_eq, Bool.not_eq_true', Bool.and_eq_false_iff, beq_eq_false_iff_ne,
    PendingEntry.isWaiting]
  constructor
  · rintro ⟨⟨hwaiting, hstream⟩, older, younger, hlist, hnone⟩
    refine ⟨older, younger, hlist, hwaiting, hstream, fun x hx ⟨hw, hs⟩ => ?_⟩
    obtain hnot | hnot := hnone x hx
    · exact hnot hw
    · exact hnot hs
  · rintro ⟨older, younger, hlist, hwaiting, hstream, hnone⟩
    exact ⟨⟨hwaiting, hstream⟩, older, younger, hlist, fun x hx => Decidable.not_and_iff_not_or_not.mp (hnone x hx)⟩

/-- A READY stream's head is among the heads that the arbiter looks at. -/
theorem State.mem_readyHeads_of_head {i : StreamIx} {e : PendingEntry} (hhead : s.head i = some e)
    (hready : s.gate i = .ready) : e ∈ s.readyHeads := by
  obtain ⟨older, younger, hlist, -, rfl, -⟩ := State.head_iff.mp hhead
  exact State.mem_readyHeads_iff.mpr ⟨by simp [hlist], hhead, hready⟩

/-! ### The arbiter's choice -/

/-- The entry outranks every other of the list, or is older than it at its rank (R88). -/
def State.Outranks (s : State) (e : PendingEntry) (l : List PendingEntry) : Prop :=
  ∀ x ∈ l, s.streams[x.stream].rank < s.streams[e.stream].rank ∨
    (s.streams[x.stream].rank = s.streams[e.stream].rank ∧ (x = e ∨ [e, x].Sublist l))

theorem State.Outranks.mono {e : PendingEntry} {l l' : List PendingEntry} (h : s.Outranks e l) (hl : l.Sublist l')
    {x : PendingEntry} (hx : x ∈ l) :
    s.streams[x.stream].rank < s.streams[e.stream].rank ∨
      (s.streams[x.stream].rank = s.streams[e.stream].rank ∧ (x = e ∨ [e, x].Sublist l')) := by
  obtain hlower | ⟨hsame, hpos⟩ := h x hx
  · exact .inl hlower
  · exact .inr ⟨hsame, hpos.imp_right fun hsub => hsub.trans hl⟩

/-- A younger head takes the choice only with a higher rank. -/
theorem State.Outranks.snoc_keeps {b x : PendingEntry} {l : List PendingEntry} (h : s.Outranks b l) (hb : b ∈ l)
    (hrank : s.streams[x.stream].rank ≤ s.streams[b.stream].rank) : s.Outranks b (l ++ [x]) := by
  intro y hy
  obtain hy | hy := List.mem_append.mp hy
  · exact h.mono (List.sublist_append_left ..) hy
  · obtain rfl := List.mem_singleton.mp hy
    obtain hlower | hsame := lt_or_eq_of_le hrank
    · exact .inl hlower
    · exact .inr ⟨hsame, .inr ((List.singleton_sublist.mpr hb).append (List.Sublist.refl [y]))⟩

theorem State.Outranks.snoc_takes {b x : PendingEntry} {l : List PendingEntry} (h : s.Outranks b l)
    (hrank : s.streams[b.stream].rank < s.streams[x.stream].rank) : s.Outranks x (l ++ [x]) := by
  intro y hy
  obtain hy | hy := List.mem_append.mp hy
  · obtain hlower | ⟨hsame, -⟩ := h y hy
    · exact .inl (hlower.trans hrank)
    · exact .inl (hsame ▸ hrank)
  · obtain rfl := List.mem_singleton.mp hy
    exact .inr ⟨rfl, .inl rfl⟩

/-- Over any list the fold keeps nothing exactly from an empty one, and otherwise the member that outranks the
others. -/
theorem State.foldl_betterHead (l : List PendingEntry) :
    (l.foldl s.betterHead none = none ↔ l = []) ∧
      ∀ e, l.foldl s.betterHead none = some e → e ∈ l ∧ s.Outranks e l := by
  induction l using List.reverseRecOn with
  | nil => simp
  | append_singleton l x ih =>
    obtain ⟨hnone, hsome⟩ := ih
    rw [List.foldl_append, List.foldl_cons, List.foldl_nil]
    cases hbest : l.foldl s.betterHead none with
    | none =>
      obtain rfl := hnone.mp hbest
      simp only [State.betterHead, List.nil_append]
      refine ⟨by simp, fun e he => ?_⟩
      obtain rfl := Option.some.inj he
      exact ⟨by simp, fun y hy => .inr ⟨by rw [List.mem_singleton.mp hy], .inl (List.mem_singleton.mp hy)⟩⟩
    | some b =>
      obtain ⟨hb, hout⟩ := hsome b hbest
      simp only [State.betterHead]
      split
      · next hhigher =>
        refine ⟨by simp, fun e he => ?_⟩
        obtain rfl := Option.some.inj he
        exact ⟨by simp, hout.snoc_takes hhigher⟩
      · next hnot =>
        refine ⟨by simp, fun e he => ?_⟩
        obtain rfl := Option.some.inj he
        exact ⟨List.mem_append_left _ hb, hout.snoc_keeps hb (Nat.not_lt.mp hnot)⟩

theorem State.chooseHead_eq_none_iff :
    s.chooseHead = none ↔ ∀ i : StreamIx, s.gate i = .ready → s.head i = none := by
  rw [State.chooseHead, (State.foldl_betterHead s.readyHeads).1, List.eq_nil_iff_forall_not_mem]
  constructor
  · intro hempty i hready
    cases hhead : s.head i with
    | none => rfl
    | some e => exact absurd (State.mem_readyHeads_of_head hhead hready) (hempty e)
  · intro hnone e he
    obtain ⟨-, hhead, hready⟩ := State.mem_readyHeads_iff.mp he
    rw [hnone _ hready] at hhead
    cases hhead

/-! ### The issue -/

theorem cast_bytesOf (beats : BitVec 5) : (bytesOf beats : Int) = 16 * beats.toNat := by
  simp [bytesOf]

end Sys2Proof.Machine

namespace Sys2Proof

open Machine

/-- Settles O11: the choice outranks every READY head, by its invariant over the fold. -/
theorem arbiterTakesHighestRankThenOldest : Obligations.ArbiterTakesHighestRankThenOldest := by
  unfold Obligations.ArbiterTakesHighestRankThenOldest
  refine ⟨fun s i e => State.head_iff, fun s e _ hchosen => ?_, fun s => State.chooseHead_eq_none_iff⟩
  obtain ⟨hmem, hout⟩ := (State.foldl_betterHead s.readyHeads).2 e hchosen
  obtain ⟨-, hhead, hready⟩ := State.mem_readyHeads_iff.mp hmem
  refine ⟨hhead, hready, fun i e' hhead' hready' => ?_⟩
  obtain ⟨-, -, -, -, rfl, -⟩ := State.head_iff.mp hhead'
  exact hout.mono List.filter_sublist (State.mem_readyHeads_of_head hhead' hready')

/-- Settles O13: an issue of the chosen head to the lowest FREE slot, with the entry found by its distinct name. -/
theorem issueSendsTheChosenHead : Obligations.IssueSendsTheChosenHead := by
  unfold Obligations.IssueSendsTheChosenHead
  refine ⟨fun s i => State.lowestFree_iff, fun s e i => ?_⟩
  intro now b charged balance hrst hhead hslot hdistinct
  have hbalance : s.streams[e.stream].balance - bytesOf e.beats = balance := by rw [cast_bytesOf]
  have hnotice : s.exhaustedNotice e.stream e.beats =
      if charged && decide (balance ≤ 0) then
        [{ event := .exhausted, stream := some e.stream, quantity := (-balance).toNat }]
      else [] := by
    rw [State.exhaustedNotice, hbalance]; rfl
  have hstreams : s.charged e.stream e.beats =
      if charged then setAt s.streams e.stream { b with balance := balance } else s.streams := by
    rw [State.charged, hbalance]; rfl
  rw [exec_issue_of_chosen hrst hhead hslot, State.issueTo, hnotice, hstreams,
    removeEntry_eq_erase (State.chooseHead_waiting hhead).1 hdistinct]
  rfl

end Sys2Proof
end

section
/-! South response intake, the north response arbiter and the takes of the north link (R96 to R99, R111 to R117). -/

namespace Sys2Proof.Machine

variable {s : State}

/-! ### South response intake -/

theorem exec_intake_of_ready {m : LinkMessage} (hrst : s.rst = false) (hcandidate : s.candidate = none) :
    exec (.southResponseIntake m) s = .next (s.intake (SouthResponse.ofMessage m)) := by
  have harm : exec (.southResponseIntake m) s = execSouthResponseIntake m s := rfl
  simp [harm, execSouthResponseIntake, hrst, hcandidate]

theorem exec_intake_of_held {m : LinkMessage} (h : s.rst = true ∨ s.candidate ≠ none) :
    exec (.southResponseIntake m) s = .next s := by
  have harm : exec (.southResponseIntake m) s = execSouthResponseIntake m s := rfl
  have hheld : s.rst || s.candidate.isSome := by
    obtain hrst | hcandidate := h
    · simp [hrst]
    · simp [Option.isSome_iff_ne_none, hcandidate]
  rw [harm, execSouthResponseIntake, if_pos hheld]

/-- The slot and the generation that a response's tag names (R9, R95). -/
theorem southTag_slot {tag : BitVec 8} {i : SlotIx} {g : BitVec 2} (h : tag = southTag i g) :
    (Fin.ofNat 64 (tag.toNat / 4) : SlotIx) = i ∧ tag.toNat % 4 = g.toNat := by
  obtain ⟨hi, hg⟩ := (southTag_eq_iff i g tag).mp h.symm
  refine ⟨Fin.ext ?_, hg.symm⟩
  rw [Fin.val_ofNat, ← hi]
  exact Nat.mod_eq_of_lt i.isLt

variable {r : SouthResponse} {i : SlotIx} {g : BitVec 2}

theorem State.intake_of_stray (htag : r.tag = southTag i g) (h : s.slots[i].use = .free ∨ s.slots[i].generation ≠ g) :
    s.intake r = s.strayDrop := by
  obtain ⟨hi, hg⟩ := southTag_slot htag
  simp only [State.intake, hi, hg]
  cases huse : s.slots[i].use with
  | free => rfl
  | busy stage q =>
    obtain hfree | hgeneration := h
    · rw [huse] at hfree; cases hfree
    · exact if_pos fun heq => hgeneration (BitVec.eq_of_toNat_eq heq)

theorem State.intake_of_orphaned (htag : r.tag = southTag i g) {q : SlotRequest}
    (hslot : s.slots[i] = { generation := g, use := .busy .orphaned q }) :
    s.intake r = ({ s with slots := setAt s.slots i s.slots[i].freed } : State).emit [s.lateNotice q] := by
  obtain ⟨hi, hg⟩ := southTag_slot htag
  simp only [State.intake, hi, hg, hslot]
  exact if_neg (fun h => h rfl)

theorem State.intake_of_inFlight (htag : r.tag = southTag i g) {stage : SlotStage} {q : SlotRequest}
    (hslot : s.slots[i] = { generation := g, use := .busy stage q }) (hstage : stage ≠ .orphaned) :
    s.intake r = { s.settleSample with
      candidate := some { slot := i, ok := beatCheck q r, data := if beatCheck q r then r.data else [] } } := by
  obtain ⟨hi, hg⟩ := southTag_slot htag
  simp only [State.intake, hi, hg, hslot]
  rw [if_neg (fun h => h rfl)]

/-- The beat check in numbers (TABLE 15). -/
theorem beatCheck_iff {q : SlotRequest} :
    beatCheck q r = true ↔
      r.status = .ok ∧ r.data.length = match q.kind with | .read => q.beats.toNat | .write => 0 := by
  cases hk : q.kind <;> simp [beatCheck, hk]

/-! ### The north response arbiter -/

theorem State.northChoice_of_reset (h : s.rst = true ∨ s.nlrst = true) : s.northChoice = none := by
  rw [State.northChoice, if_pos (by simpa using h)]

/-- With both resets released the two classes that wait decide (R111). -/
theorem State.northChoice_of_released (hrst : s.rst = false) (hnlrst : s.nlrst = false) :
    s.northChoice =
      match s.candidate.isSome, !s.replyOrder.isEmpty with
      | true, true => some (match s.lastServed with | .forwarded => .synthesized | .synthesized => .forwarded)
      | true, false => some .forwarded
      | false, true => some .synthesized
      | false, false => none :=
  if_neg (by simp [hrst, hnlrst])

/-- The forwarded class is given only to a candidate. -/
theorem State.northChoice_forwarded (h : s.northChoice = some .forwarded) : ∃ c, s.candidate = some c := by
  obtain ⟨hrst, hnlrst⟩ := State.northChoice_some h
  rw [State.northChoice_of_released hrst hnlrst] at h
  cases hc : s.candidate with
  | some c => exact ⟨c, rfl⟩
  | none => cases hr : s.replyOrder <;> simp [hc, hr] at h

/-- The synthesized class is given only to a reference. -/
theorem State.northChoice_synthesized (h : s.northChoice = some .synthesized) : ∃ ref, s.replyOrder.head? = some ref := by
  obtain ⟨hrst, hnlrst⟩ := State.northChoice_some h
  rw [State.northChoice_of_released hrst hnlrst] at h
  cases hr : s.replyOrder with
  | cons ref rest => exact ⟨ref, rfl⟩
  | nil => cases hc : s.candidate <;> simp [hc, hr] at h

/-! ### The takes that are given, and those that are not -/

theorem exec_forwarding_of_given {c : Candidate} {stage : SlotStage} {q : SlotRequest}
    (hchoice : s.northChoice = some .forwarded) (hcandidate : s.candidate = some c)
    (hslot : s.slots[c.slot].use = .busy stage q) : exec .forwarding s = .next (s.forward c stage q) := by
  have harm : exec .forwarding s = execForwarding s := rfl
  rw [harm, execForwarding, hchoice, hcandidate]
  dsimp only
  rw [hslot]

theorem exec_timeoutReply_of_given {i : SlotIx} {q : SlotRequest} (hchoice : s.northChoice = some .synthesized)
    (hhead : s.replyOrder.head? = some (.slot i)) (hslot : s.slots[i].use = .busy .timedOut q) :
    exec .timeoutReply s = .next (s.timeOut i q) := by
  have harm : exec .timeoutReply s = execTimeoutReply s := rfl
  rw [harm, execTimeoutReply, hchoice, hhead]
  dsimp only
  rw [hslot]

/-- Distinct names find the entry that carries one. -/
theorem find?_id_of_mem {l : List PendingEntry} {e : PendingEntry} (hmem : e ∈ l)
    (hdistinct : (l.map PendingEntry.id).Nodup) : (l.find? fun x => x.id == e.id) = some e := by
  induction l with
  | nil => cases hmem
  | cons x l ih =>
    obtain ⟨hx, hl⟩ := List.nodup_cons.mp hdistinct
    obtain rfl | hin := List.mem_cons.mp hmem
    · simp
    · have hne : x.id ≠ e.id := fun heq => hx (heq ▸ List.mem_map_of_mem hin)
      rw [List.find?_cons_of_neg (by simpa using hne), ih hin hl]

theorem exec_owedReply_of_given {e : PendingEntry} {k : ReplyKind} (hchoice : s.northChoice = some .synthesized)
    (hhead : s.replyOrder.head? = some (.entry e.id)) (hmem : e ∈ s.entries) (howed : e.state = .replyOwed k)
    (hdistinct : (s.entries.map PendingEntry.id).Nodup) : exec .owedReply s = .next (s.sendOwed e k) := by
  have harm : exec .owedReply s = execOwedReply s := rfl
  rw [harm, execOwedReply, hchoice, hhead]
  dsimp only
  rw [find?_id_of_mem hmem hdistinct]
  dsimp only
  rw [howed]

theorem exec_forwarding_of_notGiven (h : s.northChoice ≠ some .forwarded) : exec .forwarding s = .next s := by
  have harm : exec .forwarding s = execForwarding s := rfl
  rw [harm, execForwarding]
  split
  · next hchoice _ => exact absurd hchoice h
  · rfl

theorem exec_timeoutReply_of_notGiven (h : s.northChoice ≠ some .synthesized) : exec .timeoutReply s = .next s := by
  have harm : exec .timeoutReply s = execTimeoutReply s := rfl
  rw [harm, execTimeoutReply]
  split
  · next hchoice _ => exact absurd hchoice h
  · rfl

theorem exec_owedReply_of_notGiven (h : s.northChoice ≠ some .synthesized) : exec .owedReply s = .next s := by
  have harm : exec .owedReply s = execOwedReply s := rfl
  rw [harm, execOwedReply]
  split
  · next hchoice _ => exact absurd hchoice h
  · rfl

/-- A TIMEOUT reply is not taken for a reference to an entry. -/
theorem exec_timeoutReply_of_entry {id : Nat} (hhead : s.replyOrder.head? = some (.entry id)) :
    exec .timeoutReply s = .next s := by
  have harm : exec .timeoutReply s = execTimeoutReply s := rfl
  rw [harm, execTimeoutReply, hhead]
  split
  · next hslot => cases hslot
  · rfl

/-- An entry's owed reply is not taken for a reference to a slot. -/
theorem exec_owedReply_of_slot {i : SlotIx} (hhead : s.replyOrder.head? = some (.slot i)) :
    exec .owedReply s = .next s := by
  have harm : exec .owedReply s = execOwedReply s := rfl
  rw [harm, execOwedReply, hhead]
  split
  · next hentry => cases hentry
  · rfl

theorem exec_issue_of_none (h : s.rst = true ∨ s.chooseHead = none ∨ s.lowestFree = none) :
    exec .issue s = .next s := by
  have harm : exec .issue s = execIssue s := rfl
  rw [harm, execIssue]
  split
  · rfl
  · next hrst =>
    split
    · next hhead hslot =>
      rw [hhead, hslot] at h
      simp [hrst] at h
    · rfl

/-! ### What a take sends -/

@[simp] theorem State.emit_inFrame (ns : List Notice) : (s.emit ns).inFrame = s.inFrame := by
  simp [State.inFrame]

@[simp] theorem State.handSample_northSent (r : SampleRecord) : (s.handSample r).northSent = s.northSent := by
  obtain ⟨-, h⟩ | ⟨-, h⟩ := s.handSample_cases r
  · rw [h]
  · rw [h]; rfl

@[simp] theorem State.handSample_lastServed (r : SampleRecord) : (s.handSample r).lastServed = s.lastServed := by
  obtain ⟨-, h⟩ | ⟨-, h⟩ := s.handSample_cases r
  · rw [h]
  · rw [h]; rfl

/-- An operation sends one message north and records its class (R7, R111). -/
def State.SendsNorth (t s : State) (cls : ReplyClass) : Prop :=
  (∃ m, t.northSent = s.northSent ++ [m]) ∧ t.lastServed = cls

theorem State.forward_sendsNorth (c : Candidate) (stage : SlotStage) (q : SlotRequest) :
    (s.forward c stage q).SendsNorth s .forwarded := by
  refine ⟨⟨NorthResponse.toMessage
    { source := q.source, tag := q.northTag, status := if c.ok then .ok else .memerr, data := c.data }, ?_⟩, ?_⟩
  · rw [State.forward, State.handSample_northSent, State.emit_northSent]; rfl
  · rw [State.forward, State.handSample_lastServed, State.emit_lastServed]; rfl

theorem State.redropCandidate_sends : s.redropCandidate.1.northSent = s.northSent ∧
    s.redropCandidate.1.lastServed = s.lastServed := by
  rw [State.redropCandidate_eq]
  exact ⟨rfl, rfl⟩

theorem State.timeOut_sendsNorth (i : SlotIx) (q : SlotRequest) : (s.timeOut i q).SendsNorth s .synthesized := by
  unfold State.timeOut
  dsimp only
  split
  · refine ⟨⟨NorthResponse.toMessage { source := q.source, tag := q.northTag, status := .timeout, data := [] }, ?_⟩, ?_⟩
    · rw [State.emit_northSent, (State.redropCandidate_sends).1]; rfl
    · rw [State.emit_lastServed, (State.redropCandidate_sends).2]; rfl
  · refine ⟨⟨NorthResponse.toMessage { source := q.source, tag := q.northTag, status := .timeout, data := [] }, ?_⟩, ?_⟩
    · rw [State.emit_northSent]; rfl
    · rw [State.emit_lastServed]; rfl

theorem State.sendOwed_sendsNorth (e : PendingEntry) (k : ReplyKind) : (s.sendOwed e k).SendsNorth s .synthesized := by
  refine ⟨⟨NorthResponse.toMessage { source := e.source, tag := e.northTag, status := k.status, data := [] }, ?_⟩, ?_⟩
  · rw [State.sendOwed, State.retry_northSent]; rfl
  · rw [State.sendOwed, State.retry_lastServed]; rfl

/-- A command makes the take that the arbiter gives. -/
def State.MakesTake (s : State) (cls : ReplyClass) (c : Instr) : Prop :=
  ∃ t m, exec c s = .next t ∧ t.northSent = s.northSent ++ [m] ∧ t.lastServed = cls

theorem State.MakesTake.of_sends {cls : ReplyClass} {c : Instr} {t : State} (h : exec c s = .next t)
    (hsends : t.SendsNorth s cls) : s.MakesTake cls c := by
  obtain ⟨⟨m, hm⟩, hcls⟩ := hsends
  exact ⟨t, m, h, hm, hcls⟩

/-- A given forwarded take finds its slot in use (R96). -/
theorem TrafficInv.makesForwarding (h : TrafficInv s) (hchoice : s.northChoice = some .forwarded) :
    s.MakesTake .forwarded .forwarding := by
  obtain ⟨c, hc⟩ := State.northChoice_forwarded hchoice
  have hbusy : ∃ g q, s.slots[c.slot].use = .busy g q := by
    obtain hstage | hstage := h.candidateSlot c hc
    · obtain ⟨q, hq⟩ := Slot.inStage_iff.mp hstage
      exact ⟨_, q, hq⟩
    · obtain ⟨q, hq⟩ := Slot.inStage_iff.mp hstage
      exact ⟨_, q, hq⟩
  obtain ⟨g, q, hq⟩ := hbusy
  exact .of_sends (exec_forwarding_of_given hchoice hc hq) (State.forward_sendsNorth ..)

/-- A reference to a slot names one that is TIMED_OUT (R108). -/
theorem TrafficInv.makesTimeoutReply (h : TrafficInv s) (hchoice : s.northChoice = some .synthesized) {i : SlotIx}
    (hhead : s.replyOrder.head? = some (.slot i)) : s.MakesTake .synthesized .timeoutReply := by
  obtain ⟨q, hq⟩ := Slot.inStage_iff.mp ((h.slotRefs i).mp (List.mem_of_head? hhead))
  exact .of_sends (exec_timeoutReply_of_given hchoice hhead hq) (State.timeOut_sendsNorth ..)

/-- A reference to an entry names one in REPLY_OWED (R108). -/
theorem TrafficInv.makesOwedReply (h : TrafficInv s) (hchoice : s.northChoice = some .synthesized) {id : Nat}
    (hhead : s.replyOrder.head? = some (.entry id)) : s.MakesTake .synthesized .owedReply := by
  obtain ⟨e, hmem, rfl, hwaiting⟩ := (h.entryRefs id).mp (List.mem_of_head? hhead)
  obtain ⟨k, hk⟩ := PendingEntry.isWaiting_eq_false_iff.mp hwaiting
  exact .of_sends (exec_owedReply_of_given hchoice hhead hmem hk h.idsDistinct) (State.sendOwed_sendsNorth ..)

end Sys2Proof.Machine

namespace Sys2Proof

open Machine

/-- Settles O7: the guards of the six transfers. -/
theorem offeredMessageHasNoEffect : Obligations.OfferedMessageHasNoEffect := by
  unfold Obligations.OfferedMessageHasNoEffect
  exact ⟨fun _ _ h => exec_arrival_of_closed h, fun _ _ h => exec_intake_of_held h, fun _ h => exec_issue_of_none h,
    fun _ h => exec_forwarding_of_notGiven h,
    fun _ h => ⟨exec_timeoutReply_of_notGiven h, exec_owedReply_of_notGiven h⟩,
    fun _ _ h => exec_owedReply_of_slot h, fun _ _ h => exec_timeoutReply_of_entry h⟩

/-- Settles O14: the outcomes of TABLE 51, by the slot that the tag names. -/
theorem southResponseIntakeOutcomes : Obligations.SouthResponseIntakeOutcomes := by
  unfold Obligations.SouthResponseIntakeOutcomes
  intro m s i g r hrst hcandidate htag
  refine ⟨fun stage q hslot hstage => ?_, fun q hslot => ?_, fun hstray => ?_⟩
  · intro passes
    have hpasses : beatCheck q r = passes := Bool.eq_iff_iff.mpr (beatCheck_iff.trans decide_eq_true_iff.symm)
    have hinFlight : stage ≠ .orphaned := by
      rintro rfl
      simp at hstage
    rw [exec_intake_of_ready hrst hcandidate, State.intake_of_inFlight htag hslot hinFlight, hpasses]
  · rw [exec_intake_of_ready hrst hcandidate, State.intake_of_orphaned htag hslot, hslot]
    rfl
  · rw [exec_intake_of_ready hrst hcandidate, State.intake_of_stray htag hstray]
    rfl

/-- Settles O15: the arbiter's table, and the take of each class and kind of reference under the traffic's laws. -/
theorem northArbiterAlternates : Obligations.NorthArbiterAlternates := by
  unfold Obligations.NorthArbiterAlternates
  refine ⟨fun s h => State.northChoice_of_reset h, fun s hrst hnlrst => ?_, fun s cls hinv hchoice => ?_⟩
  · rw [State.northChoice_of_released hrst hnlrst]
    refine ⟨fun hc hr => ?_, fun hc hr => ?_, fun hc hr => ?_, fun hc hr => ?_⟩
    · cases s.lastServed <;> simp [hc, List.isEmpty_eq_false_iff.mpr hr]
    · simp [hc, hr]
    · simp [hc, List.isEmpty_eq_false_iff.mpr hr]
    · simp [hc, hr]
  · cases cls with
    | forwarded =>
      refine ⟨.forwarding, by simp, hinv.makesForwarding hchoice, fun c' hc' hne => ?_⟩
      have hother : s.northChoice ≠ some .synthesized := by simp [hchoice]
      simp only [List.mem_cons, List.not_mem_nil, or_false] at hc'
      obtain rfl | rfl | rfl := hc'
      · exact absurd rfl hne
      · exact exec_timeoutReply_of_notGiven hother
      · exact exec_owedReply_of_notGiven hother
    | synthesized =>
      have hforwarding : exec .forwarding s = .next s := exec_forwarding_of_notGiven (by simp [hchoice])
      obtain ⟨ref, hhead⟩ := State.northChoice_synthesized hchoice
      cases ref with
      | slot i =>
        refine ⟨.timeoutReply, by simp, hinv.makesTimeoutReply hchoice hhead, fun c' hc' hne => ?_⟩
        simp only [List.mem_cons, List.not_mem_nil, or_false] at hc'
        obtain rfl | rfl | rfl := hc'
        · exact hforwarding
        · exact absurd rfl hne
        · exact exec_owedReply_of_slot hhead
      | entry id =>
        refine ⟨.owedReply, by simp, hinv.makesOwedReply hchoice hhead, fun c' hc' hne => ?_⟩
        simp only [List.mem_cons, List.not_mem_nil, or_false] at hc'
        obtain rfl | rfl | rfl := hc'
        · exact hforwarding
        · exact exec_timeoutReply_of_entry hhead
        · exact absurd rfl hne

/-- Settles O16: a forwarding of a candidate whose data is that of its beat check. -/
theorem forwardingAnswersTheRequester : Obligations.ForwardingAnswersTheRequester := by
  unfold Obligations.ForwardingAnswersTheRequester
  intro s c stage q now handed hchoice hcandidate hslot hdata
  have hsent : (if c.ok = true ∧ q.kind = .read then c.data else []) = c.data := by
    split
    · rfl
    · next hnot =>
      refine (hdata ?_).symm
      cases hk : q.kind <;> simp_all
  have hsticky : ∀ a : AlertUnit, { a with sticky := { a.sticky with memerr := a.sticky.memerr || !c.ok } } =
      if c.ok then a else { a with sticky := { a.sticky with memerr := true } } := by
    intro a
    cases c.ok <;> simp
  rw [exec_forwarding_of_given hchoice hcandidate hslot, hsent, ← hsticky]
  have hframe : ∀ (t : State) (n : Notice) (r : SampleRecord), t.inFrame = s.inFrame →
      (t.emit [n]).handSample r = handed r (t.takeNotice n) := by
    intro t n r ht
    rw [State.handSample]
    show (if (t.emit [n]).inFrame then _ else _) = _
    rw [State.emit_inFrame, ht]
    rfl
  rw [State.forward]
  exact congrArg _ (hframe _ _ _ rfl)

/-- Settles O17: the TIMEOUT reply with and without a candidate held for its slot. -/
theorem timeoutReplyOrphansTheSlot : Obligations.TimeoutReplyOrphansTheSlot := by
  unfold Obligations.TimeoutReplyOrphansTheSlot
  intro s i q d u notice hchoice hhead hslot hdeadline
  have hnotice : timeoutNotice q = notice := by simp [timeoutNotice, notice, hdeadline]
  rw [exec_timeoutReply_of_given hchoice hhead hslot]
  refine ⟨fun hother => ?_, fun c hc hown => ?_⟩
  · rw [State.timeOut_of_other hother hslot, hnotice]
    rfl
  · subst hown
    rw [State.timeOut_of_candidate hc hslot, hnotice]
    rfl

/-- Settles O18: the owed reply of the entry that the head reference names. -/
theorem owedReplyIsSentOnce : Obligations.OwedReplyIsSentOnce := by
  unfold Obligations.OwedReplyIsSentOnce
  intro s e k hchoice hhead hmem howed hdistinct
  rw [exec_owedReply_of_given hchoice hhead hmem howed hdistinct, State.sendOwed, removeEntry_eq_erase hmem hdistinct]
  cases k <;> rfl

end Sys2Proof
end

section
/-! Time (R33 to R45, R58 to R60, R93): what is due at a microtick is taken in one order whichever commands took parts of
it before, because a window start reads of the slots only what an expiry keeps. -/

namespace Sys2Proof

/-- Counting over a fixed collection is counting over its indices. -/
theorem countWhere_eq_countP_finRange {α : Type} {n : Nat} (p : α → Bool) (v : Vector α n) :
    countWhere p v = (List.finRange n).countP fun i => p v[i] := by
  have hlist : v.toList = (List.finRange n).map fun i => v[i] := by
    apply List.ext_getElem <;> simp
  rw [countWhere, hlist, List.countP_map]
  rfl

theorem countWhere_mapAll {α : Type} {n : Nat} {p : α → Bool} {f : α → α} (v : Vector α n)
    (h : ∀ x, p (f x) = p x) : countWhere p (mapAll f v) = countWhere p v := by
  simp only [countWhere_eq_countP_finRange, mapAll_fin, h]

end Sys2Proof

namespace Sys2Proof.Machine

variable {s : State}

/-! ### Counting events, reports and window starts, case by case -/

/-- The part that counter `i` has frozen, before the capture attempt that the freeze may bring (R132). -/
def State.frozenBy (i : CounterIx) (s : State) : State :=
  { s with
    accounting := { s.accounting with state := .frozen (.counter i) }
    alert := { s.alert with sticky := { s.alert.sticky with freeze := true } } }

theorem State.freezeBy_of_capture {i : CounterIx} (h : s.capture.options.captureOnFreeze = true) :
    s.freezeBy i = (s.frozenBy i).captureAttempt .freeze s.windowNumber s.balances := if_pos h

theorem State.freezeBy_of_noCapture {i : CounterIx} (h : s.capture.options.captureOnFreeze = false) :
    s.freezeBy i = s.frozenBy i := if_neg (show ¬ s.capture.options.captureOnFreeze = true by simp [h])

/-- Every counter has taken the event (R127). -/
def State.counted (f : Counter → Counter × Bool) (s : State) : State :=
  { s with accounting := { s.accounting with counters := mapAll Prod.fst (mapAll f s.accounting.counters) } }

/-- The lowest-indexed counter with freeze-on-overflow that wraps at the event (R132). -/
def State.freezer (f : Counter → Counter × Bool) (s : State) : Option CounterIx :=
  (List.finRange 8).find? fun i : CounterIx =>
    (mapAll f s.accounting.counters)[i].2 && (mapAll f s.accounting.counters)[i].1.config.freezeOnOverflow

variable {f : Counter → Counter × Bool}

theorem State.count_of_frozen {c : FreezeCause} (h : s.accounting.state = .frozen c) : s.count f = s := by
  unfold State.count
  rw [h]
  rfl

theorem State.count_of_noFreezer (h : s.accounting.state = .counting) (hnone : s.freezer f = none) :
    s.count f = s.counted f := by
  unfold State.count
  rw [h]
  unfold State.freezer at hnone
  dsimp only
  rw [hnone]
  rfl

theorem State.count_of_freezer {i : CounterIx} (h : s.accounting.state = .counting) (hsome : s.freezer f = some i) :
    s.count f = (s.counted f).freezeBy i := by
  unfold State.count
  rw [h]
  unfold State.freezer at hsome
  dsimp only
  rw [hsome]
  exact (State.freezeBy_eq (s := s.counted f) i).symm

theorem State.periodicCapture_of_off {r : WindowReport} (h : s.capture.period = 0) : s.periodicCapture r = s := if_pos h

theorem State.periodicCapture_of_reached {r : WindowReport} (hon : s.capture.period ≠ 0)
    (h : s.capture.periodicCount + 1 = s.capture.period) :
    s.periodicCapture r =
      ({ s with capture := { s.capture with periodicCount := 0 } } : State).captureAttempt .periodic (some r.number)
        r.balances := (if_neg hon).trans (if_pos h)

theorem State.periodicCapture_of_short {r : WindowReport} (hon : s.capture.period ≠ 0)
    (h : s.capture.periodicCount + 1 ≠ s.capture.period) :
    s.periodicCapture r = { s with capture := { s.capture with periodicCount := s.capture.periodicCount + 1 } } :=
  (if_neg hon).trans (if_neg h)

/-- The generator and the stream table after the work of a window start (R38, R58 to R60). -/
def State.windowBegun (s : State) : State :=
  { s with window := { s.window.start with running := true }, streams := mapAll StreamEntry.windowStart s.streams }

theorem State.windowStart_of_running (h : s.window.running = true) :
    s.windowStart = s.windowBegun.takeReport s.windowReport := if_pos h

theorem State.windowStart_of_stopped (h : s.window.running = false) : s.windowStart = s.windowBegun :=
  if_neg (by simp [h])

/-- The part with the window start that the position has brought no longer to come (R37). -/
def State.startTaken (s : State) : State := { s with window := { s.window with startDue := false } }

theorem State.takeDueStart_of_due (hdue : s.window.startDue = true) (hrunning : s.window.running = true) :
    s.takeDueStart = s.startTaken.windowStart :=
  if_pos (by simp [hdue, hrunning])

theorem State.takeDueStart_report (hdue : s.window.startDue = true) (hrunning : s.window.running = true) :
    s.takeDueStart = s.startTaken.windowBegun.takeReport s.windowReport :=
  (State.takeDueStart_of_due hdue hrunning).trans (State.windowStart_of_running (s := s.startTaken) hrunning)

theorem State.takeDueStart_of_not_due (h : ¬ (s.window.startDue = true ∧ s.window.running = true)) :
    s.takeDueStart = s :=
  if_neg (by simpa using h)

/-! ### Slots and references exchanged -/

/-- Two slot tables that hold as many slots, in all and by stream. -/
def SameUse (v w : Vector Slot 64) : Prop :=
  countWhere (fun t => !t.isFree) v = countWhere (fun t => !t.isFree) w ∧
    ∀ i : StreamIx, countWhere (fun t => t.carries i) v = countWhere (fun t => t.carries i) w

/-- The part with other slots and references: what an expiry makes of it. -/
def State.reslot (v : Vector Slot 64) (refs : List Ref) (s : State) : State :=
  { s with slots := v, replyOrder := refs }

theorem State.expire_eq_reslot :
    s.expire = s.reslot (mapAll (Slot.expired s.window.partTime) s.slots) (s.replyOrder ++ s.expiring.map Ref.slot) := rfl

theorem Slot.expired_cases (t : Slot) (now : Time) :
    (∃ q, t.use = .busy .issued q ∧ t.expired now = { generation := t.generation, use := .busy .timedOut q }) ∨
      t.expired now = t := by
  cases h : t.expiresAt now with
  | false => exact .inr (Slot.expired_of_not h)
  | true =>
    obtain ⟨q, hq, -⟩ := Slot.expiresAt_iff.mp h
    exact .inl ⟨q, hq, Slot.expired_of_expires h hq⟩

/-- An expiry keeps every slot in use, under its stream. -/
theorem sameUse_expired (now : Time) (v : Vector Slot 64) : SameUse (mapAll (Slot.expired now) v) v := by
  refine ⟨countWhere_mapAll v fun t => ?_, fun i => countWhere_mapAll v fun t => ?_⟩
  · obtain ⟨q, hq, h⟩ | h := t.expired_cases now <;> simp [Slot.isFree, *]
  · obtain ⟨q, hq, h⟩ | h := t.expired_cases now <;> simp [Slot.carries, *]

section Reslot

variable {v : Vector Slot 64} {refs : List Ref}

theorem State.captureAttempt_reslot (h : SameUse v s.slots) (k : CaptureCause) (n : Option (BitVec 32))
    (b : Vector Int 16) : (s.reslot v refs).captureAttempt k n b = (s.captureAttempt k n b).reslot v refs := by
  have hnotFree : (s.reslot v refs).slotsNotFree = s.slotsNotFree := h.1
  have hrecord : (s.reslot v refs).captureRecord k n b = s.captureRecord k n b := by
    unfold State.captureRecord
    rw [hnotFree]
    rfl
  unfold State.captureAttempt
  rw [hrecord]
  rfl

theorem State.freezeBy_reslot (h : SameUse v s.slots) (i : CounterIx) :
    (s.reslot v refs).freezeBy i = (s.freezeBy i).reslot v refs := by
  cases hcapture : s.capture.options.captureOnFreeze with
  | false => rw [State.freezeBy_of_noCapture hcapture, State.freezeBy_of_noCapture (s := s.reslot v refs) hcapture]; rfl
  | true =>
    rw [State.freezeBy_of_capture hcapture, State.freezeBy_of_capture (s := s.reslot v refs) hcapture]
    exact State.captureAttempt_reslot (s := s.frozenBy i) h _ _ _

theorem State.count_reslot (h : SameUse v s.slots) (f : Counter → Counter × Bool) :
    (s.reslot v refs).count f = (s.count f).reslot v refs := by
  cases hstate : s.accounting.state with
  | frozen c => rw [State.count_of_frozen hstate, State.count_of_frozen (s := s.reslot v refs) hstate]
  | counting =>
    cases hfreezer : s.freezer f with
    | none =>
      rw [State.count_of_noFreezer hstate hfreezer, State.count_of_noFreezer (s := s.reslot v refs) hstate hfreezer]
      rfl
    | some i =>
      rw [State.count_of_freezer hstate hfreezer, State.count_of_freezer (s := s.reslot v refs) hstate hfreezer]
      exact State.freezeBy_reslot (s := s.counted f) h i

theorem State.countEvent_reslot (h : SameUse v s.slots) (f : Counter → Counter × Bool) :
    (s.reslot v refs).countEvent f = (s.countEvent f).reslot v refs :=
  State.count_reslot (s := s.settleSample) h f

theorem State.periodicCapture_reslot (h : SameUse v s.slots) (r : WindowReport) :
    (s.reslot v refs).periodicCapture r = (s.periodicCapture r).reslot v refs := by
  by_cases hoff : s.capture.period = 0
  · rw [State.periodicCapture_of_off hoff, State.periodicCapture_of_off (s := s.reslot v refs) hoff]
  · by_cases hreached : s.capture.periodicCount + 1 = s.capture.period
    · rw [State.periodicCapture_of_reached hoff hreached,
        State.periodicCapture_of_reached (s := s.reslot v refs) hoff hreached]
      exact State.captureAttempt_reslot (s := { s with capture := { s.capture with periodicCount := 0 } }) h _ _ _
    · rw [State.periodicCapture_of_short hoff hreached,
        State.periodicCapture_of_short (s := s.reslot v refs) hoff hreached]
      rfl

theorem State.takeReport_reslot (h : SameUse v s.slots) (r : WindowReport) :
    (s.reslot v refs).takeReport r = (s.takeReport r).reslot v refs := by
  unfold State.takeReport
  rw [State.countEvent_reslot h]
  exact State.periodicCapture_reslot (s := s.countEvent (Counter.takeReport r)) h r

theorem State.windowReport_reslot (h : SameUse v s.slots) : (s.reslot v refs).windowReport = s.windowReport := by
  have hnotFree : (s.reslot v refs).slotsNotFree = s.slotsNotFree := h.1
  have hheld : (s.reslot v refs).slotsHeld = s.slotsHeld := funext h.2
  unfold State.windowReport
  rw [hnotFree, hheld]
  rfl

theorem State.windowStart_reslot (h : SameUse v s.slots) :
    (s.reslot v refs).windowStart = s.windowStart.reslot v refs := by
  cases hrunning : s.window.running with
  | false =>
    rw [State.windowStart_of_stopped hrunning, State.windowStart_of_stopped (s := s.reslot v refs) hrunning]
    rfl
  | true =>
    rw [State.windowStart_of_running hrunning, State.windowStart_of_running (s := s.reslot v refs) hrunning,
      State.windowReport_reslot h]
    exact State.takeReport_reslot (s := s.windowBegun) h _

theorem State.takeDueStart_reslot (h : SameUse v s.slots) :
    (s.reslot v refs).takeDueStart = s.takeDueStart.reslot v refs := by
  by_cases hdue : s.window.startDue = true ∧ s.window.running = true
  · rw [State.takeDueStart_of_due hdue.1 hdue.2, State.takeDueStart_of_due (s := s.reslot v refs) hdue.1 hdue.2]
    exact State.windowStart_reslot (s := s.startTaken) h
  · rw [State.takeDueStart_of_not_due hdue, State.takeDueStart_of_not_due (s := s.reslot v refs) hdue]

end Reslot

/-! ### Taking twice what is due -/

@[simp] theorem State.takeDueStart_slots : s.takeDueStart.slots = s.slots := by
  obtain ⟨-, -, h⟩ | ⟨-, h⟩ := s.takeDueStart_cases <;> simp [h]

@[simp] theorem State.takeDueStart_replyOrder : s.takeDueStart.replyOrder = s.replyOrder := by
  obtain ⟨-, -, h⟩ | ⟨-, h⟩ := s.takeDueStart_cases <;> simp [h]

@[simp] theorem State.takeDueStart_partTime : s.takeDueStart.window.partTime = s.window.partTime := by
  obtain ⟨-, -, h⟩ | ⟨-, h⟩ := s.takeDueStart_cases
  · rw [h, State.windowStart_window]; rfl
  · rw [h]

@[simp] theorem State.takeDueStart_rst : s.takeDueStart.rst = s.rst := by
  obtain ⟨-, -, h⟩ | ⟨-, h⟩ := s.takeDueStart_cases <;> simp [h]

theorem Slot.expiresAt_expired (t : Slot) (now : Time) : (t.expired now).expiresAt now = false := by
  cases h : t.expiresAt now with
  | false => rwa [Slot.expired_of_not h]
  | true =>
    obtain ⟨q, hq, -⟩ := Slot.expiresAt_iff.mp h
    rw [Slot.expired_of_expires h hq]
    rfl

theorem State.expiring_eq_nil_iff : s.expiring = [] ↔ ∀ i : SlotIx, s.slots[i].expiresAt s.window.partTime = false := by
  rw [List.eq_nil_iff_forall_not_mem]
  simp only [State.mem_expiring, Bool.not_eq_true]

/-- With no slot at its deadline, an expiry changes nothing (R93). -/
theorem State.expire_of_none (h : ∀ i : SlotIx, s.slots[i].expiresAt s.window.partTime = false) : s.expire = s := by
  rw [State.expire_eq_reslot, State.expiring_eq_nil_iff.mpr h,
    mapAll_id_of _ _ fun i => Slot.expired_of_not (h i), List.map_nil, List.append_nil]
  rfl

/-- An expiry at the same part time, after any work on the window generator, has nothing left to do. -/
theorem State.expire_withWindow_expire {w : WindowGen} (h : w.partTime = s.window.partTime) :
    (s.expire.withWindow w).expire = (s.withWindow w).expire := by
  have hnone : (s.expire.withWindow w).expire = s.expire.withWindow w := by
    refine State.expire_of_none fun i => ?_
    rw [State.withWindow_slots, State.withWindow_window, State.expire_slots, mapAll_fin, h]
    exact Slot.expiresAt_expired _ _
  have hexpiring : (s.withWindow w).expiring = s.expiring := by
    unfold State.expiring
    rw [State.withWindow_slots, State.withWindow_window, h]
  rw [hnone, State.expire_eq_reslot (s := s.withWindow w), hexpiring, State.withWindow_window, h]
  rfl

/-- The part once everything that falls at the microtick now standing is taken (R37, R93). -/
theorem State.settle_eq :
    s.settle = (s.takeDueStart.withWindow
      { s.takeDueStart.window with phaseOpen := s.takeDueStart.window.settledPhases }).expire := rfl

theorem State.settle_partTime : s.settle.window.partTime = s.window.partTime := by
  rw [State.settle_eq, State.expire_window, State.withWindow_window]
  exact State.takeDueStart_partTime

/-- Once everything due is taken no slot is ISSUED at its deadline (R93). -/
theorem State.settle_not_due {i : SlotIx} {q : SlotRequest} (hq : s.settle.slots[i].use = .busy .issued q) :
    s.slots[i].use = .busy .issued q ∧ q.deadline ≠ some s.window.partTime := by
  rw [State.settle_eq] at hq
  obtain ⟨hslot, hdeadline⟩ := State.expire_not_due _ hq
  rw [State.withWindow_slots, State.takeDueStart_slots] at hslot
  simp only [State.withWindow_window, State.takeDueStart_partTime] at hdeadline
  exact ⟨hslot, hdeadline⟩

theorem State.settle_expire : s.expire.settle = s.settle := by
  have hstart : s.expire.takeDueStart = s.takeDueStart.expire := by
    rw [State.expire_eq_reslot, State.takeDueStart_reslot (sameUse_expired _ _), State.expire_eq_reslot,
      State.takeDueStart_slots, State.takeDueStart_replyOrder, State.takeDueStart_partTime]
    unfold State.expiring
    rw [State.takeDueStart_slots, State.takeDueStart_partTime]
  rw [State.settle_eq, hstart, State.expire_window, State.settle_eq]
  exact State.expire_withWindow_expire rfl

theorem State.takeReport_settleSample (r : WindowReport) : s.settleSample.takeReport r = s.takeReport r := by
  rw [State.takeReport, State.takeReport, ← State.countEvent_settleSample]

/-- A due window start takes the sample first. -/
theorem State.takeDueStart_settleSample : s.settleSample.takeDueStart = s.takeDueStart.settleSample := by
  by_cases hdue : s.window.startDue = true ∧ s.window.running = true
  · have hstart : s.settleSample.takeDueStart = s.takeDueStart := by
      rw [State.takeDueStart_report hdue.1 hdue.2, State.takeDueStart_report (s := s.settleSample) hdue.1 hdue.2]
      exact State.takeReport_settleSample (s := s.startTaken.windowBegun) _
    have hnone : s.takeDueStart.accounting.sampleDue = none := by
      rw [State.takeDueStart_report hdue.1 hdue.2, State.takeReport_sampleDue]
    rw [hstart, State.settleSample_none _ hnone]
  · rw [State.takeDueStart_of_not_due hdue, State.takeDueStart_of_not_due (s := s.settleSample) hdue]

/-- Once taken, a due window start is no longer due. -/
theorem State.takeDueStart_takeDueStart : s.takeDueStart.takeDueStart = s.takeDueStart := by
  obtain ⟨-, -, h⟩ | ⟨-, h⟩ := s.takeDueStart_cases
  · obtain ⟨hdue, -, -⟩ | ⟨-, h'⟩ := s.takeDueStart.takeDueStart_cases
    · rw [h, State.windowStart_window] at hdue; cases hdue
    · exact h'
  · rw [h, h]

theorem State.settle_takeDueStart : s.takeDueStart.settle = s.settle := by
  rw [State.settle_eq, State.takeDueStart_takeDueStart, ← State.settle_eq]

/-- A window start closes and opens the channels anew, so that it forgets what the phases were (R38). -/
theorem State.windowStart_withPhases (v : Vector Bool 4) :
    (s.withWindow { s.window with phaseOpen := v }).windowStart = s.windowStart := by
  unfold State.windowStart
  rfl

/-- Opening or closing what is due leaves the same to be taken. -/
theorem State.settle_withPhases {v : Vector Bool 4}
    (h : ({ s.window with phaseOpen := v } : WindowGen).settledPhases = s.window.settledPhases) :
    (s.withWindow { s.window with phaseOpen := v }).settle = s.settle := by
  rw [State.settle_eq, State.settle_eq]
  by_cases hdue : s.window.startDue = true ∧ s.window.running = true
  · have hstart : (s.withWindow { s.window with phaseOpen := v }).takeDueStart = s.takeDueStart := by
      rw [State.takeDueStart_of_due hdue.1 hdue.2,
        State.takeDueStart_of_due (s := s.withWindow { s.window with phaseOpen := v }) hdue.1 hdue.2]
      exact State.windowStart_withPhases (s := s.startTaken) v
    rw [hstart]
  · rw [State.takeDueStart_of_not_due hdue,
      State.takeDueStart_of_not_due (s := s.withWindow { s.window with phaseOpen := v }) hdue, State.withWindow_window, h]
    rfl

/-! ### The microtick -/

theorem exec_microtick_of_released (hrst : s.rst = false) :
    exec .microtick s = .next (s.settleSample.settle.withWindow s.settleSample.settle.window.tick) := by
  have harm : exec .microtick s = execMicrotick s := rfl
  rw [harm, execMicrotick, hrst]
  rfl

theorem exec_microtick_congr {t : State} (hrst : t.rst = s.rst)
    (h : t.settleSample.settle = s.settleSample.settle) (hreleased : s.rst = false) :
    exec .microtick t = exec .microtick s := by
  rw [exec_microtick_of_released hreleased, exec_microtick_of_released (hrst.trans hreleased), h]

/-- With nothing due there is nothing to take. -/
theorem State.settle_of_nothing_due (hstart : s.window.startDue = false)
    (hphases : ∀ c : ChannelIx, s.window.openDue c = false ∧ s.window.closeDue c = false)
    (hslots : ∀ i : SlotIx, s.slots[i].expiresAt s.window.partTime = false) : s.settle = s := by
  have hkept : s.takeDueStart = s := by
    rw [State.takeDueStart, hstart]
    rfl
  have hsettled : s.window.settledPhases = s.window.phaseOpen := by
    have key : ∀ c : ChannelIx, s.window.settledPhases[c] = s.window.phaseOpen[c] := fun c => by
      rw [WindowGen.settledPhases_fin, (hphases c).1, (hphases c).2]; rfl
    exact Vector.ext fun j hj => key ⟨j, hj⟩
  rw [State.settle_eq, hkept, hsettled]
  exact State.expire_of_none hslots

theorem exec_expiry_of_none (h : s.expiring = []) : exec .expiry s = .next s := by
  have harm : exec .expiry s = execExpiry s := rfl
  simp [harm, execExpiry, h]

theorem exec_expiry_of_some (hrst : s.rst = false) (h : s.expiring ≠ []) :
    exec .expiry s = .next s.settleSample.expire := by
  have harm : exec .expiry s = execExpiry s := rfl
  simp [harm, execExpiry, h, hrst]

theorem exec_windowStartEvent_of_released (hrst : s.rst = false) : exec .windowStartEvent s = .next s.takeDueStart := by
  have harm : exec .windowStartEvent s = execWindowStartEvent s := rfl
  simp [harm, execWindowStartEvent, hrst]

theorem exec_phaseOpen_of_due {c : ChannelIx} (hrst : s.rst = false) (h : s.window.openDue c = true) :
    exec (.phaseOpen c) s =
      .next (s.settleSample.withWindow { s.window with phaseOpen := setAt s.window.phaseOpen c true }) := by
  have harm : exec (.phaseOpen c) s = execPhaseOpen c s := rfl
  rw [harm, execPhaseOpen, if_pos (by simp [hrst, h])]
  rfl

theorem exec_phaseClose_of_due {c : ChannelIx} (hrst : s.rst = false) (h : s.window.closeDue c = true) :
    exec (.phaseClose c) s =
      .next (s.settleSample.withWindow { s.window with phaseOpen := setAt s.window.phaseOpen c false }) := by
  have harm : exec (.phaseClose c) s = execPhaseClose c s := rfl
  rw [harm, execPhaseClose, if_pos (by simp [hrst, h])]
  rfl

theorem exec_phaseOpen_of_not_due {c : ChannelIx} (h : s.window.openDue c = false) :
    exec (.phaseOpen c) s = .next s := by
  have harm : exec (.phaseOpen c) s = execPhaseOpen c s := rfl
  rw [harm, execPhaseOpen, if_neg (by simp [h])]

theorem exec_phaseClose_of_not_due {c : ChannelIx} (h : s.window.closeDue c = false) :
    exec (.phaseClose c) s = .next s := by
  have harm : exec (.phaseClose c) s = execPhaseClose c s := rfl
  rw [harm, execPhaseClose, if_neg (by simp [h])]

/-- Under RST_N time does not run (R15). -/
theorem exec_time_of_rst (hrst : s.rst = true) {c : Instr}
    (hc : c = .expiry ∨ c = .windowStartEvent ∨ ∃ ch, c = .phaseOpen ch ∨ c = .phaseClose ch) :
    exec c s = .next s := by
  obtain rfl | rfl | ⟨ch, rfl | rfl⟩ := hc
  · have harm : exec .expiry s = execExpiry s := rfl
    simp [harm, execExpiry, hrst]
  · have harm : exec .windowStartEvent s = execWindowStartEvent s := rfl
    simp [harm, execWindowStartEvent, hrst]
  · have harm : exec (.phaseOpen ch) s = execPhaseOpen ch s := rfl
    simp [harm, execPhaseOpen, hrst]
  · have harm : exec (.phaseClose ch) s = execPhaseClose ch s := rfl
    simp [harm, execPhaseClose, hrst]

/-- A command of time leaves what a microtick leaves. -/
theorem exec_microtick_after_time {c : Instr} {t : State}
    (hc : c = .expiry ∨ c = .windowStartEvent ∨ ∃ ch, c = .phaseOpen ch ∨ c = .phaseClose ch)
    (ht : exec c s = .next t) : exec .microtick t = exec .microtick s := by
  cases hrst : s.rst with
  | true =>
    rw [exec_time_of_rst hrst hc] at ht
    cases ht
    rfl
  | false =>
    obtain rfl | rfl | ⟨ch, rfl | rfl⟩ := hc
    · by_cases hnone : s.expiring = []
      · rw [exec_expiry_of_none hnone] at ht; cases ht; rfl
      · rw [exec_expiry_of_some hrst hnone] at ht; cases ht
        refine exec_microtick_congr (by simp) ?_ hrst
        rw [State.settleSample_none _ (by simp), State.settle_expire]
    · rw [exec_windowStartEvent_of_released hrst] at ht; cases ht
      refine exec_microtick_congr (by simp) ?_ hrst
      rw [← State.takeDueStart_settleSample, State.settle_takeDueStart]
    · cases hdue : s.window.openDue ch with
      | false => rw [exec_phaseOpen_of_not_due hdue] at ht; cases ht; rfl
      | true =>
        rw [exec_phaseOpen_of_due hrst hdue] at ht; cases ht
        refine exec_microtick_congr (by simp) ?_ hrst
        rw [State.settleSample_none _ (by simp)]
        exact State.settle_withPhases (s := s.settleSample) (WindowGen.settledPhases_opened hdue)
    · cases hdue : s.window.closeDue ch with
      | false => rw [exec_phaseClose_of_not_due hdue] at ht; cases ht; rfl
      | true =>
        rw [exec_phaseClose_of_due hrst hdue] at ht; cases ht
        refine exec_microtick_congr (by simp) ?_ hrst
        rw [State.settleSample_none _ (by simp)]
        exact State.settle_withPhases (s := s.settleSample) (WindowGen.settledPhases_closed hdue)

end Sys2Proof.Machine

namespace Sys2Proof

open Machine

/-- Settles O19: with nothing due a microtick is the tick of the window generator. -/
theorem microtickAdvancesPartTimeAndPosition : Obligations.MicrotickAdvancesPartTimeAndPosition := by
  unfold Obligations.MicrotickAdvancesPartTimeAndPosition
  intro s w reached hrst hstart hphases hslots
  have hsettle : s.settleSample.settle = s.settleSample := State.settle_of_nothing_due hstart hphases hslots
  have htick : w.tick = { w with
      partTime := w.partTime + 1
      partClocks := w.partClocks + w.interval
      interval := w.prescaler
      position := if w.running then (if reached then 0 else w.position + 1) else w.position
      startDue := reached } := by
    rw [WindowGen.tick, hstart]; rfl
  rw [exec_microtick_of_released hrst, hsettle, ← htick]
  rfl

/-- Settles O20: the commands of time commute into the settling of a microtick, which leaves no ISSUED slot at its
deadline. -/
theorem microtickTakesWhatIsDue : Obligations.MicrotickTakesWhatIsDue := by
  unfold Obligations.MicrotickTakesWhatIsDue
  refine ⟨fun c s t hc ht => exec_microtick_after_time hc ht, fun s t hrst ht => ?_⟩
  rw [exec_microtick_of_released hrst] at ht
  cases ht
  refine ⟨?_, fun i q hq => ?_⟩
  · rw [State.withWindow_window, WindowGen.tick, State.settle_partTime]
    rfl
  · rw [State.withWindow_slots] at hq
    have hdue := State.settle_not_due hq
    rwa [State.settleSample_slots, State.settleSample_window] at hdue

end Sys2Proof
end

section
/-! Expiry, the window start, its report and the phase events (R37 to R45, R58 to R60, R93). -/

namespace Sys2Proof

theorem ofFn_fin {α : Type} {n : Nat} (f : Fin n → α) (i : Fin n) : (Vector.ofFn f)[i] = f i := by
  simp

theorem toList_sum_ofFn {n : Nat} (f : Fin n → Nat) : (Vector.ofFn f).toList.sum = ∑ i, f i := by
  rw [Vector.toList_ofFn, List.sum_ofFn]

/-- Counts by class add up to the count of all, when each member counted is of exactly one class. -/
theorem sum_countP {α : Type} {n : Nat} {p : Fin n → α → Bool} {q : α → Bool}
    (h : ∀ a, (∑ i, if p i a then 1 else 0) = if q a then 1 else 0) (l : List α) :
    ∑ i, l.countP (p i) = l.countP q := by
  induction l with
  | nil => simp
  | cons a l ih => simp only [List.countP_cons, Finset.sum_add_distrib, ih, h]

/-- Sums by class add up to the sum of all. -/
theorem sum_filter_map {α : Type} {n : Nat} (c : α → Fin n) (g : α → Nat) (l : List α) :
    (∑ i, ((l.filter fun a => c a == i).map g).sum) = (l.map g).sum := by
  induction l with
  | nil => simp
  | cons a l ih =>
    have hsplit : ∀ i, (((a :: l).filter fun a => c a == i).map g).sum =
        (if c a = i then g a else 0) + ((l.filter fun a => c a == i).map g).sum := fun i => by
      by_cases h : c a = i <;> simp [h]
    simp only [hsplit, Finset.sum_add_distrib, ih, Finset.sum_ite_eq, Finset.mem_univ, if_true, List.map_cons,
      List.sum_cons]

end Sys2Proof

namespace Sys2Proof.Machine

variable {s : State}

/-! ### The levels of the window report -/

theorem State.sum_waitingCount : ∑ i, s.waitingCount i = s.waitingTotal := by
  refine sum_countP (fun e => ?_) s.entries
  cases e.isWaiting <;> simp

theorem State.sum_poolHeld : ∑ i, s.poolHeld i = s.poolInUse := sum_filter_map PendingEntry.stream _ s.entries

theorem State.sum_slotsHeld : ∑ i, s.slotsHeld i = s.slotsNotFree := by
  simp only [State.slotsHeld, State.slotsNotFree, countWhere_eq_countP_finRange]
  refine sum_countP (fun j => ?_) _
  cases huse : s.slots[j].use <;> simp [Slot.carries, Slot.isFree, huse, -Fin.getElem_fin]

/-- The pool beats of a stream are those of its WAITING WRITE entries (R31). -/
theorem State.poolHeld_eq (i : StreamIx) :
    s.poolHeld i =
      ((s.entries.filter fun e => e.state = .waiting ∧ e.kind = .write ∧ e.stream = i).map fun e => e.beats.toNat).sum := by
  unfold State.poolHeld
  induction s.entries with
  | nil => rfl
  | cons e l ih =>
    by_cases hstream : e.stream = i
    · by_cases hholds : e.state = .waiting ∧ e.kind = .write
      · simp [hstream, hholds, ih, PendingEntry.poolBeats, PendingEntry.isWaiting]
      · have hnone : e.poolBeats = 0 := if_neg (by simpa [PendingEntry.isWaiting] using hholds)
        rw [List.filter_cons_of_pos (by simp [hstream]),
          List.filter_cons_of_neg (by simpa [hstream] using hholds), List.map_cons, List.sum_cons, hnone, ih, Nat.zero_add]
    · rw [List.filter_cons_of_neg (by simp [hstream]), List.filter_cons_of_neg (by simp [hstream]), ih]

/-! ### The commands that make a window start -/

theorem exec_windowStart_of_inFrame (hframe : s.inFrame = true) (hsample : s.accounting.sampleDue = none) :
    exec .windowStart s = .next (s.windowStart.answered 0x21 .ok []) := by
  have harm : exec .windowStart s = execWindowStart s := rfl
  rw [harm, execWindowStart, s.runCommand_inFrame _ _ hframe hsample]
  rfl

/-- WINDOW START works on every stream, before the sample that is due or after it (R147). -/
theorem exec_windowStart_streams {t : State} (hframe : s.inFrame = true) (ht : exec .windowStart s = .next t) :
    t.streams = mapAll StreamEntry.windowStart s.streams := by
  have harm : exec .windowStart s = .next (s.runCommand 0x21 fun u => .ok u.windowStart []) := rfl
  rw [harm] at ht
  cases ht
  have hserve : ∀ u : State, (u.serve 0x21 fun u => .ok u.windowStart []).streams = mapAll StreamEntry.windowStart u.streams :=
    fun u => by rw [State.serve, State.answered_streams, Reply.ok_state, State.windowStart_streams]
  obtain ⟨hno, -⟩ | ⟨-, heq⟩ | ⟨r, -, -, heq | heq⟩ := s.runCommand_cases 0x21 fun u => .ok u.windowStart []
  · rw [hframe] at hno; cases hno
  · rw [heq, hserve, State.settleSample_streams]
  · rw [heq]
    exact hserve s.drawOrder
  · rw [heq]
    exact hserve (s.drawOrder.sample r)

end Sys2Proof.Machine

namespace Sys2Proof

open Machine

/-- Settles O21: an expiry of the slots that `State.expiring` lists. -/
theorem expiryTimesOutEverySlotDue : Obligations.ExpiryTimesOutEverySlotDue := by
  unfold Obligations.ExpiryTimesOutEverySlotDue
  intro s hrst
  have hsorted : s.expiring.Pairwise (· < ·) := (List.pairwise_lt_finRange 64).filter _
  have hdue : ∀ i : SlotIx, i ∈ s.expiring ↔
      ∃ q, s.slots[i].use = .busy .issued q ∧ q.deadline = some s.window.partTime := fun i =>
    State.mem_expiring.trans Slot.expiresAt_iff
  by_cases hnone : s.expiring = []
  · refine ⟨s, s.expiring, exec_expiry_of_none hnone, ?_, hsorted, hdue, fun i q hi => ?_, fun i _ => rfl⟩
    · rw [hnone]
      simp
    · rw [hnone] at hi
      cases hi
  · refine ⟨s.settleSample.expire, s.expiring, exec_expiry_of_some hrst hnone, ?_, hsorted, hdue, fun i q hi hq => ?_,
      fun i hi => ?_⟩
    · rw [if_neg hnone]
      rfl
    · rw [State.expire_slots, mapAll_fin]
      exact Slot.expired_of_expires (State.mem_expiring.mp hi) hq
    · rw [State.expire_slots, mapAll_fin]
      exact Slot.expired_of_not (Bool.eq_false_of_not_eq_true fun h => hi (State.mem_expiring.mpr h))

/-- Settles O22: a window start from STOPPED and one that ends a running window. -/
theorem windowStartBeginsAWindow : Obligations.WindowStartBeginsAWindow := by
  unfold Obligations.WindowStartBeginsAWindow
  intro s begun
  have hchannels : (fun ch : Channel => decide (ch.offset = 0 ∧ 0 < ch.width)) =
      fun ch => ch.offset == 0 && decide (0 < ch.width) := funext fun ch => by
    exact Bool.eq_iff_iff.mpr (by simp)
  have hbegun : begun s.window.startDue = s.windowBegun := by
    simp only [begun, hchannels]
    rfl
  have hbegunTaken : begun false = s.startTaken.windowBegun := by
    simp only [begun, hchannels]
    rfl
  refine ⟨fun hrst hrunning hdue => ?_, fun hframe hsample => ⟨fun hstopped => ?_, fun hrunning => ?_⟩⟩
  · rw [exec_windowStartEvent_of_released hrst, State.takeDueStart_report hdue hrunning, hbegunTaken]
  · rw [exec_windowStart_of_inFrame hframe hsample, State.windowStart_of_stopped hstopped, hbegun]
  · rw [exec_windowStart_of_inFrame hframe hsample, State.windowStart_of_running hrunning, hbegun]

/-- Settles O23: the stream table's work, and its place in both commands. -/
theorem windowStartAppliesStagedAndReplenishes : Obligations.WindowStartAppliesStagedAndReplenishes := by
  unfold Obligations.WindowStartAppliesStagedAndReplenishes
  refine ⟨fun e => StreamEntry.windowStart_of_valid, fun e => StreamEntry.windowStart_of_not_valid, ?_⟩
  intro s t c hc ht i
  have hstreams : t.streams = mapAll StreamEntry.windowStart s.streams := by
    obtain ⟨rfl, hframe⟩ | ⟨rfl, hrst, hrunning, hdue⟩ := hc
    · exact exec_windowStart_streams hframe ht
    · rw [exec_windowStartEvent_of_released hrst, State.takeDueStart_of_due hdue hrunning] at ht
      cases ht
      exact State.windowStart_streams _
  rw [hstreams, mapAll_fin]

/-- Settles O24: the levels by stream, and their sums over the streams. -/
theorem windowReportGivesLevelsAndTotals : Obligations.WindowReportGivesLevelsAndTotals := by
  unfold Obligations.WindowReportGivesLevelsAndTotals
  intro s r
  have hwaiting : r.waiting = Vector.ofFn s.waitingCount := rfl
  have hpool : r.pool = Vector.ofFn s.poolHeld := rfl
  have hslots : r.slots = Vector.ofFn s.slotsHeld := rfl
  have hbalances : r.balances = mapAll (fun e => if e.valid then e.balance else 0) s.streams := rfl
  refine ⟨rfl, fun i => ⟨?_, ?_, ?_, ?_⟩, ?_, ?_, ?_⟩
  · have hlevel : r.waiting[i] = s.waitingCount i := by rw [hwaiting, ofFn_fin]
    rw [hlevel, State.waitingCount, List.countP_eq_length_filter]
    refine congrArg List.length (List.filter_congr fun e _ => Bool.eq_iff_iff.mpr ?_)
    simp [PendingEntry.isWaiting]
  · rw [hpool, ofFn_fin, State.poolHeld_eq]
  · rw [hslots, ofFn_fin, State.slotsHeld, countWhere_eq_countP_finRange, List.countP_eq_length_filter]
  · rw [hbalances, mapAll_fin]
  · rw [hwaiting, toList_sum_ofFn, State.sum_waitingCount]
    rfl
  · rw [hpool, toList_sum_ofFn, State.sum_poolHeld]
    rfl
  · rw [hslots, toList_sum_ofFn, State.sum_slotsHeld]
    rfl

/-- Settles O25: the conditions of an open and of a close are those of the two events. -/
theorem phaseEventsFollowThePosition : Obligations.PhaseEventsFollowThePosition := by
  unfold Obligations.PhaseEventsFollowThePosition
  intro s c w ch opens closes hrst
  have hopens : opens ↔ s.window.openDue c = true := by
    rw [WindowGen.openDue_iff]
    exact and_left_comm
  have hcloses : closes ↔ s.window.closeDue c = true := by
    rw [WindowGen.closeDue_iff]
    exact and_left_comm
  refine ⟨fun h => ?_, fun h => ?_, fun h => ?_, fun h => ?_⟩
  · exact exec_phaseOpen_of_due hrst (hopens.mp h)
  · exact exec_phaseClose_of_due hrst (hcloses.mp h)
  · exact exec_phaseOpen_of_not_due (Bool.eq_false_of_not_eq_true fun hdue => h (hopens.mpr hdue))
  · exact exec_phaseClose_of_not_due (Bool.eq_false_of_not_eq_true fun hdue => h (hcloses.mpr hdue))

end Sys2Proof
end

section
/-! The edges of the reset pins and of SEL_N (R14, R15, R83, R103, R118, R163, R168). -/

namespace Sys2Proof.Machine

variable {s : State}

/-! ### The edges of NLRST_N -/

theorem Slot.orphaned_eq (t : Slot) :
    t.orphaned = match t.use with
      | .free => t
      | .busy _ q => { generation := t.generation, use := .busy .orphaned q } := by
  cases huse : t.use with
  | free => exact Slot.orphaned_of_free huse
  | busy g q => exact Slot.orphaned_of_busy huse

theorem exec_nlrstAssert_of_released (hrst : s.rst = false) (hnlrst : s.nlrst = false) :
    exec .nlrstAssert s = .next s.linkReset := by
  have harm : exec .nlrstAssert s = execNlrstAssert s := rfl
  simp [harm, execNlrstAssert, hrst, hnlrst]

theorem exec_nlrstAssert_of_asserted (hnlrst : s.nlrst = true) : exec .nlrstAssert s = .next s := by
  have harm : exec .nlrstAssert s = execNlrstAssert s := rfl
  simp [harm, execNlrstAssert, hnlrst]

theorem exec_nlrstAssert_of_rst (hrst : s.rst = true) (hnlrst : s.nlrst = false) :
    exec .nlrstAssert s = .next { s with nlrst := true } := by
  have harm : exec .nlrstAssert s = execNlrstAssert s := rfl
  simp [harm, execNlrstAssert, hrst, hnlrst]

theorem exec_nlrstRelease_of_asserted (hrst : s.rst = false) (hnlrst : s.nlrst = true) :
    exec .nlrstRelease s = .next { s.settleSample with nlrst := false, port := .accepting } := by
  have harm : exec .nlrstRelease s = execNlrstRelease s := rfl
  simp [harm, execNlrstRelease, hrst, hnlrst]

theorem exec_nlrstRelease_of_released (hnlrst : s.nlrst = false) : exec .nlrstRelease s = .next s := by
  have harm : exec .nlrstRelease s = execNlrstRelease s := rfl
  simp [harm, execNlrstRelease, hnlrst]

theorem exec_nlrstRelease_of_rst (hrst : s.rst = true) (hnlrst : s.nlrst = true) :
    exec .nlrstRelease s = .next { s with nlrst := false } := by
  have harm : exec .nlrstRelease s = execNlrstRelease s := rfl
  simp [harm, execNlrstRelease, hrst, hnlrst]

/-! ### Under RST_N -/

/-- The part that an assertion of RST_N leaves (R15). -/
def State.rstAsserted (s : State) : State :=
  { s.settleSample with rst := true, port := s.portAfterReset, mgmt := { s.mgmt with rx := .idle, miso := .ones } }

theorem exec_rstAssert_of_released (hrst : s.rst = false) : exec .rstAssert s = .next s.rstAsserted := by
  have harm : exec .rstAssert s = execRstAssert s := rfl
  simp [harm, execRstAssert, hrst, State.rstAsserted]

theorem State.alertLow_of_rst (hrst : s.rst = true) : s.alertLow = false := by
  simp [State.alertLow, hrst]

/-- No transfer and no event of time has an effect under RST_N (R15). -/
theorem exec_event_of_rst (hrst : s.rst = true) {c : Instr}
    (hc : (∃ m, c = .arrival m ∨ c = .southResponseIntake m) ∨ (∃ ch, c = .phaseOpen ch ∨ c = .phaseClose ch) ∨
      c ∈ [Instr.issue, .forwarding, .timeoutReply, .owedReply, .microtick, .expiry, .windowStartEvent]) :
    exec c s = .next s := by
  have hchoice : s.northChoice = none := State.northChoice_of_reset (.inl hrst)
  simp only [List.mem_cons, List.not_mem_nil, or_false] at hc
  obtain ⟨m, rfl | rfl⟩ | ⟨ch, h⟩ | rfl | rfl | rfl | rfl | rfl | rfl | rfl := hc
  · exact exec_arrival_of_closed (.inl hrst)
  · exact exec_intake_of_held (.inl hrst)
  · exact exec_time_of_rst hrst (.inr (.inr ⟨ch, h⟩))
  · exact exec_issue_of_none (.inl hrst)
  · exact exec_forwarding_of_notGiven (by simp [hchoice])
  · exact exec_timeoutReply_of_notGiven (by simp [hchoice])
  · exact exec_owedReply_of_notGiven (by simp [hchoice])
  · have harm : exec .microtick s = execMicrotick s := rfl
    simp [harm, execMicrotick, hrst]
  · exact exec_time_of_rst hrst (.inl rfl)
  · exact exec_time_of_rst hrst (.inr (.inl rfl))

/-- The end of a frame that was not received only ends the frame (R163). -/
theorem exec_frameEnd_of_rst (hrst : s.rst = true) (hsample : s.accounting.sampleDue = none) {c : Instr}
    (hc : isCommand c = true ∨ c = .frameIgnored ∨ ∃ bits, c = .frameError bits ∨ c = .nop bits) :
    exec c s = .next s.deselect := by
  have hignored : ∀ t : State, t.accounting.sampleDue = none → t.settleSample.deselect = t.deselect := fun t ht => by
    rw [t.settleSample_none ht]
  obtain hc | rfl | ⟨bits, rfl | rfl⟩ := hc
  · obtain ⟨code, owner, hexec, -⟩ := hasOwner_of_isCommand hc
    rw [hexec, State.runCommand_notInFrame _ _ _ (by simp [State.inFrame, hrst])]
  · exact congrArg _ (hignored s hsample)
  · have harm : exec (.frameError bits) s = execFrameError bits s := rfl
    rw [harm, execFrameError, hrst]
  · exact congrArg _ (hignored s hsample)

/-! ### The falling edge of SEL_N -/

theorem exec_selFallingEdge_of_selected (h : s.mgmt.selected = true) : exec .selFallingEdge s = .next s := by
  have harm : exec .selFallingEdge s = execSelFallingEdge s := rfl
  simp [harm, execSelFallingEdge, h]

theorem exec_selFallingEdge_of_rst (h : s.mgmt.selected = false) (hrst : s.rst = true) :
    exec .selFallingEdge s = .next { s with mgmt := { s.mgmt with selected := true, rx := .idle, miso := .ones } } := by
  have harm : exec .selFallingEdge s = execSelFallingEdge s := rfl
  simp [harm, execSelFallingEdge, h, hrst]

theorem exec_selFallingEdge_of_released (h : s.mgmt.selected = false) (hrst : s.rst = false) :
    exec .selFallingEdge s = .next { s with mgmt := { s.mgmt with
      selected := true, rx := .receiving RxBuffer.empty, miso := .response s.mgmt.held.bytes } } := by
  have harm : exec .selFallingEdge s = execSelFallingEdge s := rfl
  simp [harm, execSelFallingEdge, h, hrst]

theorem State.misoBit_ones (hselected : s.mgmt.selected = true) (hmiso : s.mgmt.miso = .ones) (k : Nat) :
    s.misoBit k = some true := by
  simp [State.misoBit, hselected, hmiso]

theorem State.misoBit_released (hselected : s.mgmt.selected = false) (k : Nat) : s.misoBit k = none := by
  simp [State.misoBit, hselected]

theorem State.misoBit_response (hselected : s.mgmt.selected = true) {bytes : List Byte}
    (hmiso : s.mgmt.miso = .response bytes) (k : Nat) : s.misoBit k = some (shiftedBit bytes k) := by
  simp [State.misoBit, hselected, hmiso]

/-- A byte shifts out with its most significant bit first (R163). -/
theorem shiftedBit_of_byte {bytes : List Byte} {n k : Nat} (hk : k < 8) {b : Byte} (hb : bytes[n]? = some b) :
    shiftedBit bytes (8 * n + k) = b.getLsbD (7 - k) := by
  have hbyte : (8 * n + k) / 8 = n := by omega
  have hbit : (8 * n + k) % 8 = k := by omega
  rw [shiftedBit, hbyte, hbit, hb]
  rfl

/-- Beyond the last byte there are ones (R168). -/
theorem shiftedBit_of_beyond {bytes : List Byte} {n k : Nat} (hk : k < 8) (hn : bytes.length ≤ n) :
    shiftedBit bytes (8 * n + k) = true := by
  have hbyte : (8 * n + k) / 8 = n := by omega
  have hbit : (8 * n + k) % 8 = k := by omega
  rw [shiftedBit, hbyte, hbit, List.getElem?_eq_none hn]
  have hones : ∀ j < 8, (0xFF : Byte).getLsbD j = true := by decide
  exact hones _ (by omega)

/-! ### The power-on values -/

theorem StreamEntry.reset_fin (i : StreamIx) : State.reset.streams[i] = StreamEntry.reset (i == 0) :=
  ofFn_fin (fun i => StreamEntry.reset (i == 0)) i

theorem reset_counter (i : CounterIx) : AccountingUnit.reset.counters[i] = Counter.reset := by
  simp [AccountingUnit.reset]

theorem State.cutFrame_cases :
    s.cutFrame = s ∨
      s.cutFrame = { s with mgmt := { s.mgmt with miso := .unknown s.freeDrawn }, freeDrawn := s.freeDrawn + 1 } := by
  unfold State.cutFrame
  split
  · exact .inr rfl
  · exact .inl rfl

end Sys2Proof.Machine

namespace Sys2Proof

open Machine

/-- Settles O26: the link reset with and without a candidate, and the edges that have no effect on the part. -/
theorem linkResetEdges : Obligations.LinkResetEdges := by
  unfold Obligations.LinkResetEdges
  refine ⟨fun s => ?_, fun s hrst hnlrst => exec_nlrstRelease_of_asserted hrst hnlrst, fun s => ?_⟩
  · intro u hrst hnlrst
    have hemptied : s.linkEmptied = u := by
      have horphaned : Slot.orphaned = fun t : Slot => match t.use with
          | .free => t
          | .busy _ q => { generation := t.generation, use := .busy .orphaned q } := funext Slot.orphaned_eq
      simp only [u, State.linkEmptied, horphaned]
      rfl
    rw [exec_nlrstAssert_of_released hrst hnlrst]
    refine ⟨fun hc => ?_, fun c stage q hc hq => ?_⟩
    · rw [State.linkReset_of_none hc, hemptied]
    · rw [State.linkReset_of_candidate hc hq, hemptied]
      rfl
  · exact ⟨exec_nlrstAssert_of_asserted, exec_nlrstRelease_of_released, exec_nlrstAssert_of_rst,
      exec_nlrstRelease_of_rst⟩

/-- Settles O27: under RST_N, with no sample due and an idle receive state, nothing acts. -/
theorem resetAssertionSilencesThePart : Obligations.ResetAssertionSilencesThePart := by
  unfold Obligations.ResetAssertionSilencesThePart
  intro s hrst
  have hsample : s.rstAsserted.accounting.sampleDue = none := AccountingUnit.settle_sampleDue _
  refine ⟨s.rstAsserted, exec_rstAssert_of_released hrst, rfl, State.alertLow_of_rst rfl, rfl,
    fun c hc => exec_event_of_rst rfl hc, fun k => ?_, fun c hc => exec_frameEnd_of_rst rfl hsample hc, fun hsel => ?_⟩
  · cases hselected : s.mgmt.selected with
    | true => exact State.misoBit_ones (s := s.rstAsserted) hselected rfl k
    | false => exact State.misoBit_released (s := s.rstAsserted) hselected k
  · exact ⟨_, exec_selFallingEdge_of_rst hsel rfl, fun k => State.misoBit_ones rfl rfl k⟩

/-- Settles O28: the power-on values, block by block. -/
theorem resetReleaseGivesPowerOnValues : Obligations.ResetReleaseGivesPowerOnValues := by
  unfold Obligations.ResetReleaseGivesPowerOnValues
  intro s hrst
  refine ⟨s.cutFrame.powerOn, exec_rstRelease_of_rst hrst, ?_⟩
  have hkept : s.cutFrame.nlrst = s.nlrst ∧ s.cutFrame.mgmt.selected = s.mgmt.selected ∧
      s.cutFrame.northSent = s.northSent ∧ s.cutFrame.southSent = s.southSent := by
    obtain h | h := s.cutFrame_cases <;> rw [h] <;> exact ⟨rfl, rfl, rfl, rfl⟩
  generalize s.cutFrame = u at hkept ⊢
  obtain ⟨hnlrst, hselected, hnorth, hsouth⟩ := hkept
  have hport : u.powerOn.port = if s.nlrst then .linkReset else .accepting := by rw [← hnlrst]; rfl
  refine ⟨rfl, hnlrst, hport, fun i => ?_, rfl, fun i => reset_slot i, rfl, rfl, rfl, rfl, ?_, ?_, ?_, rfl, ?_, rfl, rfl,
    rfl, hselected, hnorth, hsouth⟩
  · rw [State.powerOn_streams, StreamEntry.reset_fin]
    rfl
  · refine ⟨rfl, rfl, rfl, rfl, rfl, rfl, rfl, rfl, rfl, rfl, fun c => ⟨?_, ?_⟩⟩
    · simp [State.powerOn, State.reset, WindowGen.reset, WindowSettings.reset]
    · simp [State.powerOn, State.reset, WindowGen.reset]
  · exact ⟨rfl, rfl, fun i => reset_counter i⟩
  · exact ⟨rfl, fun i => clearBins_fin i, rfl⟩
  · intro k
    exact ⟨by cases k <;> rfl, BitVec.getLsbD_zero⟩

/-- Settles O29: what MISO carries is fixed at the falling edge. -/
theorem frameShowsTheHeldResponse : Obligations.FrameShowsTheHeldResponse := by
  unfold Obligations.FrameShowsTheHeldResponse
  refine fun s => ⟨exec_selFallingEdge_of_selected, fun hselected => ?_⟩
  obtain hrst | hrst := Bool.eq_false_or_eq_true s.rst
  · refine ⟨_, exec_selFallingEdge_of_rst hselected hrst, rfl,
      fun _ => ⟨rfl, fun k => State.misoBit_ones rfl rfl k⟩, fun hno => ?_⟩
    rw [hrst] at hno
    cases hno
  · refine ⟨_, exec_selFallingEdge_of_released hselected hrst, rfl, fun hno => ?_, fun _ => ⟨rfl, ?_⟩⟩
    · rw [hrst] at hno
      cases hno
    intro h front sent
    refine ⟨by simp [sent, front]; omega, fun n k hk => ⟨fun b hb => ?_, fun hn => ?_⟩⟩
    · rw [State.misoBit_response rfl rfl]
      exact congrArg some (shiftedBit_of_byte hk hb)
    · rw [State.misoBit_response rfl rfl]
      exact congrArg some (shiftedBit_of_beyond hk hn)

end Sys2Proof
end

section
/-! The frame-end judgement (R163 to R167, TABLE 80): the bits of a frame and the bytes that they complete, the lines of
the table, and the ends of frames that hand over no command. -/

namespace Sys2Proof

/-! ### Bits and bytes -/

/-- The eight bits of a byte stand for it (R163). -/
theorem ofNat_bitsNat_bitsOf (b : Byte) : BitVec.ofNat 8 (bitsNat (bitsOf b)) = b := by
  revert b
  decide

@[simp] theorem bitsOf_length (b : Byte) : (bitsOf b).length = 8 := by simp [bitsOf]

theorem RxBuffer.push_bits (r : RxBuffer) (b : Byte) : (r.push b).bits = r.bits := by
  unfold RxBuffer.push
  split
  · rfl
  · split <;> rfl

theorem RxBuffer.push_bytes_ne_nil (r : RxBuffer) (b : Byte) : (r.push b).bytes ≠ [] := by
  unfold RxBuffer.push
  split
  · simp
  · next hbytes =>
    split
    · simp [hbytes]
    · simp [hbytes]

/-- Fewer than eight bits complete no byte (R163). -/
theorem RxBuffer.foldl_sample_of_few (r : RxBuffer) (bits : List Bool) (h : r.bits.length + bits.length < 8) :
    bits.foldl RxBuffer.sample r = { r with bits := r.bits ++ bits } := by
  induction bits generalizing r with
  | nil => simp
  | cons b bits ih =>
    rw [List.length_cons] at h
    have hsample : r.sample b = { r with bits := r.bits ++ [b] } := if_pos (by omega)
    rw [List.foldl_cons, hsample, ih _ (by simp; omega)]
    simp

/-- Eight bits from the beginning of a byte complete one (R163). -/
theorem RxBuffer.foldl_sample_of_eight (r : RxBuffer) (hr : r.bits = []) {bits : List Bool} (h : bits.length = 8) :
    bits.foldl RxBuffer.sample r = r.push (BitVec.ofNat 8 (bitsNat bits)) := by
  obtain ⟨front, b, rfl⟩ := List.eq_nil_or_concat bits |>.resolve_left (by rintro rfl; simp at h)
  have hfront : front.length = 7 := by simpa using h
  rw [List.concat_eq_append, List.foldl_append, List.foldl_cons, List.foldl_nil,
    r.foldl_sample_of_few front (by rw [hr]; simp; omega), hr, List.nil_append]
  have hfull : ¬ front.length < 7 := by omega
  refine (if_neg hfull).trans ?_
  show RxBuffer.push { r with bits := [] } _ = _
  rw [← hr]

theorem RxBuffer.foldl_sample_bitsOf (r : RxBuffer) (hr : r.bits = []) (b : Byte) :
    (bitsOf b).foldl RxBuffer.sample r = r.push b := by
  rw [r.foldl_sample_of_eight hr (bitsOf_length b), ofNat_bitsNat_bitsOf]

/-- The bits of whole bytes are received as those bytes. -/
theorem RxBuffer.foldl_sample_flatMap (r : RxBuffer) (hr : r.bits = []) (bytes : List Byte) :
    (bytes.flatMap bitsOf).foldl RxBuffer.sample r = bytes.foldl RxBuffer.push r := by
  induction bytes generalizing r with
  | nil => rfl
  | cons b bytes ih =>
    rw [List.flatMap_cons, List.foldl_append, r.foldl_sample_bitsOf hr, ih _ ((r.push_bits b).trans hr), List.foldl_cons]

theorem RxBuffer.foldl_push_bits (r : RxBuffer) (bytes : List Byte) : (bytes.foldl RxBuffer.push r).bits = r.bits := by
  induction bytes generalizing r with
  | nil => rfl
  | cons b bytes ih => rw [List.foldl_cons, ih, RxBuffer.push_bits]

/-- A frame of bits is judged by the bytes that they complete (R163, R166). -/
theorem judgeBits_flatMap (bytes : List Byte) {tail : List Bool} (h : tail.length < 8) :
    judgeBits (bytes.flatMap bitsOf ++ tail) = judgeFrame bytes := by
  have hbits : (bytes.foldl RxBuffer.push RxBuffer.empty).bits = [] := RxBuffer.foldl_push_bits _ _
  rw [judgeBits, List.foldl_append, RxBuffer.foldl_sample_flatMap _ rfl,
    RxBuffer.foldl_sample_of_few _ tail (by rw [hbits]; simpa using h)]
  rfl

/-! ### The lines of TABLE 80 -/

theorem RxBuffer.judge_eq_ignored_iff (r : RxBuffer) : r.judge = .ignored ↔ r.bytes = [] := by
  unfold RxBuffer.judge
  split
  · next hbytes => simp [hbytes]
  · next code rest hbytes =>
    simp only [hbytes, reduceCtorEq, iff_false]
    intro h
    split at h
    · cases h
    · split at h
      · cases h
      · split at h
        · cases h
        · split at h
          · cases h
          · split at h
            · cases h
            · split at h <;> cases h

theorem RxBuffer.sample_bytes_ne_nil {r : RxBuffer} (h : r.bytes ≠ []) (b : Bool) : (r.sample b).bytes ≠ [] := by
  unfold RxBuffer.sample
  split
  · exact h
  · exact RxBuffer.push_bytes_ne_nil _ _

theorem RxBuffer.foldl_sample_bytes_ne_nil {r : RxBuffer} (h : r.bytes ≠ []) (bits : List Bool) :
    (bits.foldl RxBuffer.sample r).bytes ≠ [] := by
  induction bits generalizing r with
  | nil => exact h
  | cons b bits ih => exact ih (RxBuffer.sample_bytes_ne_nil h b)

/-- A frame is ignored exactly when no byte was completed in it (TABLE 80, line 1). -/
theorem judgeBits_eq_ignored_iff (bits : List Bool) : judgeBits bits = .ignored ↔ bits.length < 8 := by
  rw [judgeBits, RxBuffer.judge_eq_ignored_iff]
  constructor
  · intro hnone
    by_contra hmany
    have height : (bits.take 8).length = 8 := by rw [List.length_take]; omega
    rw [← List.take_append_drop 8 bits, List.foldl_append, RxBuffer.foldl_sample_of_eight _ rfl height] at hnone
    exact RxBuffer.foldl_sample_bytes_ne_nil (RxBuffer.push_bytes_ne_nil _ _) _ hnone
  · intro hfew
    rw [RxBuffer.foldl_sample_of_few _ _ (by simpa [RxBuffer.empty] using hfew)]
    rfl

/-- Every code of TABLE 86 with its length has its command. -/
theorem exists_decodeCommand {code : Byte} {a : Nat} (h : argBytes code = some a) (args : List Byte) :
    ∃ c, decodeCommand code args = some c := by
  cases hdecode : decodeCommand code args with
  | some c => exact ⟨c, rfl⟩
  | none =>
    exfalso
    unfold decodeCommand at hdecode
    split at hdecode
    case h_33 =>
      unfold argBytes at h
      split at h
      case h_33 => cases h
      all_goals contradiction
    all_goals cases hdecode

section Lines

variable {code : Byte} {rest : List Byte}

theorem judgeFrame_unknown (hcode : code ≠ 0x00) (hargs : argBytes code = none) :
    judgeFrame (code :: rest) = .error code .unknownCmd := by
  obtain ⟨n, hlen⟩ := exists_frameLength_eq_succ code
  rw [judgeFrame, RxBuffer.foldl_push_cons hlen, RxBuffer.judge]
  dsimp only
  rw [if_neg hcode, hargs]

theorem judgeFrame_short (hcode : code ≠ 0x00) {a : Nat} (hargs : argBytes code = some a) (hshort : rest.length < a + 1) :
    judgeFrame (code :: rest) = .error code .shortFrame := by
  have hlen : (code :: rest.take (a + 1)).length < 2 + a := by
    rw [List.length_cons, List.length_take]; omega
  rw [judgeFrame, RxBuffer.foldl_push_cons (frameLength_of_argBytes hargs), RxBuffer.judge]
  dsimp only
  rw [if_neg hcode, hargs]
  exact if_pos hlen

theorem judgeFrame_long (hcode : code ≠ 0x00) {a : Nat} (hargs : argBytes code = some a) (hlong : a + 1 < rest.length) :
    judgeFrame (code :: rest) = .error code .longFrame := by
  have hlen : ¬ (code :: rest.take (a + 1)).length < 2 + a := by
    rw [List.length_cons, List.length_take]; omega
  rw [judgeFrame, RxBuffer.foldl_push_cons (frameLength_of_argBytes hargs), RxBuffer.judge]
  dsimp only
  rw [if_neg hcode, hargs]
  exact (if_neg hlen).trans (if_pos (decide_eq_true hlong))

end Lines

namespace Machine

variable {s : State}

/-- A frame that the port has received and judged in error fails (TABLE 80, lines 3 to 6). -/
theorem exec_frameError_of_received {bits : List Bool} {code : Byte} {e : FrameError} (hrst : s.rst = false)
    (hrx : s.mgmt.rx = .receiving RxBuffer.empty) (hjudged : judgeBits bits = .error code e) :
    exec (.frameError bits) s = .next (s.frameFailed code e) := by
  have harm : exec (.frameError bits) s = execFrameError bits s := rfl
  rw [judgeBits] at hjudged
  rw [harm, execFrameError, hrst, hrx]
  dsimp only
  rw [hjudged]

end Machine

open Machine

/-- Settles O30: a frame of 0x00 and filler is judged on its first byte, and ends with the held response as it was. -/
theorem nopFrameChangesNothing : Obligations.NopFrameChangesNothing := by
  unfold Obligations.NopFrameChangesNothing
  refine ⟨fun filler => ⟨judgeFrame_nop filler, ?_⟩, fun bits s => ⟨rfl, s.settleSample_none, fun t u hrst ht hu => ?_⟩⟩
  · have hbits : List.replicate 8 false ++ filler.flatMap bitsOf = ((0x00 : Byte) :: filler).flatMap bitsOf ++ [] := by
      rw [List.append_nil, List.flatMap_cons]
      rfl
    rw [hbits, judgeBits_flatMap _ (by simp), judgeFrame_nop]
  · have hend : exec (.nop bits) s = .next s.settleSample.deselect := rfl
    rw [hend] at ht
    cases ht
    rw [exec_selFallingEdge_of_released (s := s.settleSample.deselect) rfl hrst] at hu
    cases hu
    exact ⟨rfl, rfl, rfl⟩

/-- Settles O31: the bits that complete no byte, and the end of a frame judged in error. -/
theorem ignoredAndFailedFrames : Obligations.IgnoredAndFailedFrames := by
  unfold Obligations.IgnoredAndFailedFrames
  refine ⟨judgeBits_eq_ignored_iff, fun s => ⟨rfl, s.settleSample_none⟩, fun bits s code e hrst hrx hjudged => ?_⟩
  rw [exec_frameError_of_received hrst hrx hjudged]
  cases e <;> rfl

/-- Settles O32: bits are judged by their bytes, and bytes by the lines of TABLE 80 in order. -/
theorem frameJudgementFollowsTable80 : Obligations.FrameJudgementFollowsTable80 := by
  unfold Obligations.FrameJudgementFollowsTable80
  refine ⟨fun bytes tail htail => judgeBits_flatMap bytes htail, rfl, fun code rest => ⟨?_, fun hcode => ⟨?_, ?_⟩⟩⟩
  · rintro rfl
    exact judgeFrame_nop rest
  · exact judgeFrame_unknown hcode
  · intro a hargs
    refine ⟨judgeFrame_short hcode hargs, judgeFrame_long hcode hargs, ?_⟩
    rintro args crc rfl rfl
    refine ⟨(judgeFrame_eq_crcError_iff hcode hargs crc).mpr, fun hcrc => ?_⟩
    obtain ⟨c, hc⟩ := exists_decodeCommand hargs args
    refine ⟨c, hc, ?_⟩
    rw [judgeFrame_of_full hcode hargs, if_neg (not_not.mpr hcrc), hc]
    rfl

end Sys2Proof
end

section
/-! The layouts at the part's edges read back (R174 to R176): the argument fields of every command frame, and the
header words of the link messages. -/

namespace Sys2Proof

open Sys2Proof.Laws (leBytes_length flatMap_length)

/-! ### Argument fields -/

theorem leNat_leBytes (n v : Nat) : leNat (leBytes n v) = v % 256 ^ n := by
  induction n generalizing v with
  | zero => simp [leNat, leBytes, Nat.mod_one]
  | succ n ih =>
    have hsplit : v % 256 ^ (n + 1) = v % 256 + 256 * (v / 256 % 256 ^ n) := by
      rw [Nat.pow_succ']
      exact Nat.mod_mul
    rw [leBytes, leNat, ih, BitVec.toNat_ofNat, hsplit]

/-- A field whose bytes are those of a word of its width reads back as that word (R176). -/
theorem argField_of_leBytes {w at_ len : Nat} {args : List Byte} {x : BitVec w} (hw : w = 8 * len)
    (h : (args.drop at_).take len = leBytes len x.toNat) : argField w at_ len args = x := by
  subst hw
  have hx : x.toNat < 256 ^ len := by
    have := x.isLt
    rwa [Nat.pow_mul] at this
  rw [argField, h, leNat_leBytes, Nat.mod_eq_of_lt hx, BitVec.ofNat_toNat, BitVec.setWidth_eq]

theorem argField_of_byte {at_ : Nat} {args : List Byte} {b : Byte} (h : (args.drop at_).take 1 = [b]) :
    argField 8 at_ 1 args = b := by
  rw [argField, h]
  simp [leNat]

/-- Of blocks of one length laid side by side, block `i` is the block of member `i`. -/
theorem take_drop_flatMap {α β : Type} {f : α → List β} {k : Nat} (hf : ∀ a, (f a).length = k) {l : List α} {i : Nat}
    (hi : i < l.length) : ((l.flatMap f).drop (k * i)).take k = f l[i] := by
  induction l generalizing i with
  | nil => cases hi
  | cons a l ih =>
    cases i with
    | zero => simp [← hf a]
    | succ i =>
      have hskip : k * (i + 1) = (f a).length + k * i := by rw [hf]; ring
      rw [List.flatMap_cons, hskip, List.drop_length_add_append, ih (Nat.lt_of_succ_lt_succ hi)]
      rfl

/-- A field inside a block of an argument list is that part of the block. -/
theorem take_drop_of_block {α : Type} {l block : List α} {p m : Nat} (h : (l.drop p).take m = block) {q k : Nat}
    (hk : q + k ≤ m) : (l.drop (p + q)).take k = (block.drop q).take k := by
  rw [← h, List.drop_take, List.take_take, List.drop_drop, min_eq_left (by omega)]

theorem decodeStreamWrite_encode (a : StreamWriteArgs) : decodeStreamWrite (encodeStreamWrite a) = a := by
  unfold decodeStreamWrite
  congr 1
  case e_pageBase | e_pageLimit | e_allotment | e_ceiling => exact argField_of_leBytes rfl rfl
  all_goals exact argField_of_byte rfl

/-- The bytes of one channel's argument fields (TABLE 86). -/
def channelArgBytes (c : ChannelArgs) : List Byte := leBytes 2 c.offset.toNat ++ leBytes 2 c.width.toNat

theorem channelArgBytes_length (c : ChannelArgs) : (channelArgBytes c).length = 4 := by
  simp [channelArgBytes, leBytes_length]

theorem encodeWindowSet_length (a : WindowSetArgs) : (encodeWindowSet a).length = 18 := by
  have hchannels : (a.channels.toList.flatMap channelArgBytes).length = 16 := by
    rw [flatMap_length _ 4 _ channelArgBytes_length]
    simp
  rw [encodeWindowSet, List.length_append, leBytes_length]
  exact congrArg (2 + ·) hchannels

theorem encodeWindowSet_block (a : WindowSetArgs) (i : ChannelIx) :
    ((encodeWindowSet a).drop (2 + 4 * i.val)).take 4 = channelArgBytes a.channels[i] := by
  have hskip : (encodeWindowSet a).drop 2 = a.channels.toList.flatMap channelArgBytes :=
    List.drop_left' (leBytes_length ..)
  rw [← List.drop_drop, hskip, take_drop_flatMap channelArgBytes_length (by simp)]
  simp

theorem decodeWindowSet_encode (a : WindowSetArgs) : decodeWindowSet (encodeWindowSet a) = a := by
  have hlength : argField 16 0 2 (encodeWindowSet a) = a.length := argField_of_leBytes rfl rfl
  have hchannel : ∀ i : ChannelIx, ({ offset := argField 16 (2 + 4 * i.val) 2 (encodeWindowSet a)
                                      width := argField 16 (4 + 4 * i.val) 2 (encodeWindowSet a) } : ChannelArgs) =
      a.channels[i] := fun i => by
    have hoffset : argField 16 (2 + 4 * i.val) 2 (encodeWindowSet a) = a.channels[i].offset :=
      argField_of_leBytes rfl ((take_drop_of_block (q := 0) (encodeWindowSet_block a i) (by decide)).trans rfl)
    have hwidth : argField 16 (4 + 4 * i.val) 2 (encodeWindowSet a) = a.channels[i].width := by
      refine argField_of_leBytes rfl ?_
      rw [show 4 + 4 * i.val = 2 + 4 * i.val + 2 by omega]
      exact (take_drop_of_block (q := 2) (encodeWindowSet_block a i) (by decide)).trans rfl
    rw [hoffset, hwidth]
  unfold decodeWindowSet
  rw [hlength, funext hchannel]
  exact congrArg (WindowSetArgs.mk a.length) (Vector.ext fun j hj => by simp)

theorem decodeCounterSet_encode (a : CounterSetArgs) :
    decodeCounterSet ([a.index, a.event, a.filter] ++ leBytes 3 a.threshold.toNat ++ [a.flags]) = a := by
  unfold decodeCounterSet
  congr 1
  case e_threshold => exact argField_of_leBytes rfl rfl
  all_goals exact argField_of_byte rfl

theorem encodeHistogramSet_length (a : HistogramSetArgs) : (encodeHistogramSet a).length = 24 := by
  rw [encodeHistogramSet, List.length_append, flatMap_length _ 3 _ fun b => leBytes_length 3 _]
  simp

theorem encodeHistogramSet_block (a : HistogramSetArgs) (i : Fin 7) :
    ((encodeHistogramSet a).drop (3 + 3 * i.val)).take 3 = leBytes 3 a.boundaries[i].toNat := by
  have hskip : (encodeHistogramSet a).drop 3 = a.boundaries.toList.flatMap fun b => leBytes 3 b.toNat := rfl
  rw [← List.drop_drop, hskip, take_drop_flatMap (fun b => leBytes_length 3 _) (by simp)]
  simp

theorem decodeHistogramSet_encode (a : HistogramSetArgs) : decodeHistogramSet (encodeHistogramSet a) = a := by
  have hboundary : ∀ i : Fin 7, argField 24 (3 + 3 * i.val) 3 (encodeHistogramSet a) = a.boundaries[i] := fun i =>
    argField_of_leBytes rfl (encodeHistogramSet_block a i)
  have hkind : argField 8 0 1 (encodeHistogramSet a) = a.latencyKind := argField_of_byte rfl
  have hfilter : argField 8 1 1 (encodeHistogramSet a) = a.filter := argField_of_byte rfl
  have hflags : argField 8 2 1 (encodeHistogramSet a) = a.flags := argField_of_byte rfl
  unfold decodeHistogramSet
  rw [hkind, hfilter, hflags, funext hboundary]
  exact congrArg (HistogramSetArgs.mk a.latencyKind a.filter a.flags) (Vector.ext fun j hj => by simp)

/-! ### Command frames -/

/-- The code and the argument bytes of a command spell it again, at the length that the code asks for (TABLE 86). -/
theorem decode_of_commandBytes {c : Instr} {bytes : List Byte} (h : commandBytes c = some bytes) :
    ∃ code args, bytes = code :: args ∧ code ≠ 0x00 ∧ argBytes code = some args.length ∧
      decodeCommand code args = some c := by
  cases c <;> cases h
  case tickSet p =>
    have hp : argField 16 0 2 (leBytes 2 p.toNat) = p := argField_of_leBytes rfl rfl
    exact ⟨0x03, _, rfl, by decide, rfl, congrArg (fun x => some (Instr.tickSet x)) hp⟩
  case streamWrite a =>
    exact ⟨0x10, _, rfl, by decide, rfl, congrArg (fun x => some (Instr.streamWrite x)) (decodeStreamWrite_encode a)⟩
  case windowSet a =>
    refine ⟨0x20, _, rfl, by decide, ?_, congrArg (fun x => some (Instr.windowSet x)) (decodeWindowSet_encode a)⟩
    rw [encodeWindowSet_length]
    rfl
  case timeoutSet v =>
    have hv : argField 24 0 3 (leBytes 3 v.toNat) = v := argField_of_leBytes rfl rfl
    exact ⟨0x30, _, rfl, by decide, rfl, congrArg (fun x => some (Instr.timeoutSet x)) hv⟩
  case counterSet a =>
    exact ⟨0x40, _, rfl, by decide, rfl, congrArg (fun x => some (Instr.counterSet x)) (decodeCounterSet_encode a)⟩
  case counterWrite i v =>
    have hi : argField 8 0 1 (i :: leBytes 5 v.toNat) = i := argField_of_byte rfl
    have hv : argField 40 1 5 (i :: leBytes 5 v.toNat) = v := argField_of_leBytes rfl rfl
    exact ⟨0x41, _, rfl, by decide, rfl, congrArg₂ (fun x y => some (Instr.counterWrite x y)) hi hv⟩
  case histogramSet a =>
    refine ⟨0x50, _, rfl, by decide, ?_, congrArg (fun x => some (Instr.histogramSet x)) (decodeHistogramSet_encode a)⟩
    rw [encodeHistogramSet_length]
    rfl
  case captureSet k o =>
    have hk : argField 8 0 1 [k, o] = k := argField_of_byte rfl
    have ho : argField 8 1 1 [k, o] = o := argField_of_byte rfl
    exact ⟨0x60, _, rfl, by decide, rfl, congrArg₂ (fun x y => some (Instr.captureSet x y)) hk ho⟩
  all_goals exact ⟨_, _, rfl, by decide, rfl, by simp [decodeCommand, argField_of_byte]⟩

/-- Settles O33: the code, the length, the CRC and the arguments of every command frame read back. -/
theorem encodedFramesDecode : Obligations.EncodedFramesDecode := by
  unfold Obligations.EncodedFramesDecode
  intro c bytes h
  obtain ⟨front, hfront, rfl⟩ := Option.map_eq_some_iff.mp h
  obtain ⟨code, args, rfl, hcode, hargs, hdecode⟩ := decode_of_commandBytes hfront
  rw [List.cons_append, judgeFrame_of_full hcode hargs, if_neg (not_not.mpr rfl), hdecode]
  rfl

end Sys2Proof
end

section
/-! The header words of the link messages (R174, TABLE 85): each field is its part of the header's number, whose fields
lie side by side. -/

namespace Sys2Proof

/-- A field of one bit is that bit of the header. -/
theorem extractLsb'_one_eq_one_iff (h : BitVec 64) (k : Nat) : h.extractLsb' k 1 = 1 ↔ h.getLsbD k = true := by
  have hbit : (h.extractLsb' k 1).getLsbD 0 = h.getLsbD k := by simp
  rw [← hbit]
  generalize h.extractLsb' k 1 = x
  revert x
  decide

/-- Headers that agree in the bits of a field agree in the field. -/
theorem extractLsb'_congr {h h' : BitVec 64} {n : Nat} (hbits : ∀ k, k < n → h.getLsbD k = h'.getLsbD k) {at_ w : Nat}
    (hw : at_ + w ≤ n) : h.extractLsb' at_ w = h'.extractLsb' at_ w := by
  refine BitVec.eq_of_getLsbD_eq fun k hk => ?_
  rw [BitVec.getLsbD_extractLsb', BitVec.getLsbD_extractLsb', hbits (at_ + k) (by omega)]

/-! ### The request -/

theorem Request.toMessage_header_lt (r : Request) : r.toMessage.header.toNat < 2 ^ 60 := by
  have hkind := r.kind.code_lt_two
  rw [r.toMessage_header_toNat]
  omega

/-! ### The south response -/

/-- The code of a south response's status (TABLE 85). -/
def SouthStatus.code : SouthStatus → Nat
  | .ok => 0
  | .error => 1

theorem SouthStatus.code_lt_two (k : SouthStatus) : k.code < 2 := by
  cases k <;> decide

theorem SouthResponse.toMessage_header_toNat (r : SouthResponse) :
    r.toMessage.header.toNat = r.source.toNat + 2 ^ 6 * r.tag.toNat + 2 ^ 14 * r.status.code := by
  have hstatus := r.status.code_lt_two
  have hheader : r.toMessage.header =
      BitVec.ofNat 64 (r.source.toNat + 2 ^ 6 * r.tag.toNat + 2 ^ 14 * r.status.code) := by
    obtain ⟨source, tag, status, data⟩ := r
    cases status <;> rfl
  rw [hheader, BitVec.toNat_ofNat, Nat.mod_eq_of_lt]
  omega

theorem SouthResponse.toMessage_header_lt (r : SouthResponse) : r.toMessage.header.toNat < 2 ^ 15 := by
  have hstatus := r.status.code_lt_two
  rw [r.toMessage_header_toNat]
  omega

theorem SouthResponse.toMessage_source (r : SouthResponse) : r.toMessage.header.extractLsb' 0 6 = r.source := by
  rw [extractLsb'_eq_iff, r.toMessage_header_toNat]
  omega

theorem SouthResponse.toMessage_tag (r : SouthResponse) : r.toMessage.header.extractLsb' 6 8 = r.tag := by
  rw [extractLsb'_eq_iff, r.toMessage_header_toNat]
  omega

theorem SouthResponse.toMessage_status (r : SouthResponse) :
    r.toMessage.header.extractLsb' 14 1 = BitVec.ofNat 1 r.status.code := by
  rw [extractLsb'_eq_iff, r.toMessage_header_toNat, BitVec.toNat_ofNat]
  omega

theorem SouthResponse.ofMessage_toMessage (r : SouthResponse) : SouthResponse.ofMessage r.toMessage = r := by
  have hstatus : (if r.toMessage.header.getLsbD 14 then SouthStatus.error else .ok) = r.status := by
    simp only [← extractLsb'_one_eq_one_iff, r.toMessage_status]
    cases r.status <;> rfl
  rw [SouthResponse.ofMessage, hstatus, r.toMessage_source, r.toMessage_tag]
  rfl

/-! ### The north response -/

theorem NorthStatus.code_lt_six (k : NorthStatus) : k.code < 6 := by
  cases k <;> decide

theorem NorthResponse.toMessage_header_toNat (r : NorthResponse) :
    r.toMessage.header.toNat = r.source.toNat + 2 ^ 6 * r.tag.toNat + 2 ^ 14 * r.status.code := by
  have hstatus := r.status.code_lt_six
  rw [NorthResponse.toMessage, BitVec.toNat_ofNat, Nat.mod_eq_of_lt]
  omega

theorem NorthResponse.toMessage_header_lt (r : NorthResponse) : r.toMessage.header.toNat < 2 ^ 17 := by
  have hstatus := r.status.code_lt_six
  rw [r.toMessage_header_toNat]
  omega

theorem NorthResponse.toMessage_source (r : NorthResponse) : r.toMessage.header.extractLsb' 0 6 = r.source := by
  rw [extractLsb'_eq_iff, r.toMessage_header_toNat]
  omega

theorem NorthResponse.toMessage_tag (r : NorthResponse) : r.toMessage.header.extractLsb' 6 8 = r.tag := by
  rw [extractLsb'_eq_iff, r.toMessage_header_toNat]
  omega

theorem NorthResponse.toMessage_status (r : NorthResponse) :
    (r.toMessage.header.extractLsb' 14 3).toNat = r.status.code := by
  have hstatus := r.status.code_lt_six
  rw [BitVec.extractLsb'_toNat, Nat.shiftRight_eq_div_pow, r.toMessage_header_toNat]
  omega

/-! ### What a taken header is read from -/

theorem Request.ofMessage_eq (m : LinkMessage) :
    Request.ofMessage m =
      { kind := if m.header.extractLsb' 0 1 = 1 then .write else .read
        source := m.header.extractLsb' 1 6, tag := m.header.extractLsb' 7 8, beats := m.header.extractLsb' 15 5
        address := m.header.extractLsb' 20 40, data := m.data } := by
  simp only [extractLsb'_one_eq_one_iff]
  rfl

theorem SouthResponse.ofMessage_eq (m : LinkMessage) :
    SouthResponse.ofMessage m =
      { source := m.header.extractLsb' 0 6, tag := m.header.extractLsb' 6 8
        status := if m.header.extractLsb' 14 1 = 1 then .error else .ok, data := m.data } := by
  simp only [extractLsb'_one_eq_one_iff]
  rfl

theorem Request.ofMessage_congr {m n : LinkMessage} (hdata : m.data = n.data)
    (hbits : ∀ k, k < 60 → m.header.getLsbD k = n.header.getLsbD k) : Request.ofMessage m = Request.ofMessage n := by
  have hfield : ∀ {at_ w : Nat}, at_ + w ≤ 60 → m.header.extractLsb' at_ w = n.header.extractLsb' at_ w :=
    fun hw => extractLsb'_congr hbits hw
  rw [Request.ofMessage_eq, Request.ofMessage_eq, hdata, hfield (at_ := 0) (by decide), hfield (at_ := 1) (by decide),
    hfield (at_ := 7) (by decide), hfield (at_ := 15) (by decide), hfield (at_ := 20) (by decide)]

theorem SouthResponse.ofMessage_congr {m n : LinkMessage} (hdata : m.data = n.data)
    (hbits : ∀ k, k < 15 → m.header.getLsbD k = n.header.getLsbD k) :
    SouthResponse.ofMessage m = SouthResponse.ofMessage n := by
  have hfield : ∀ {at_ w : Nat}, at_ + w ≤ 15 → m.header.extractLsb' at_ w = n.header.extractLsb' at_ w :=
    fun hw => extractLsb'_congr hbits hw
  rw [SouthResponse.ofMessage_eq, SouthResponse.ofMessage_eq, hdata, hfield (at_ := 0) (by decide),
    hfield (at_ := 6) (by decide), hfield (at_ := 14) (by decide)]

/-- Settles O35: the three headers field by field, and the headers that are taken. -/
theorem linkHeadersKeepTheirFields : Obligations.LinkHeadersKeepTheirFields := by
  unfold Obligations.LinkHeadersKeepTheirFields
  refine ⟨fun r => ?_, fun r => ?_, fun r => ?_, fun m => ⟨Request.ofMessage_eq m, SouthResponse.ofMessage_eq m⟩,
    fun m n => Request.ofMessage_congr, fun m n => SouthResponse.ofMessage_congr⟩
  · refine ⟨Request.ofMessage_toMessage r, r.toMessage_header_lt, ?_, r.toMessage_source, r.toMessage_tag,
      r.toMessage_beats, r.toMessage_address, rfl⟩
    rw [r.toMessage_kind]
    cases r.kind <;> rfl
  · refine ⟨r.ofMessage_toMessage, r.toMessage_header_lt, r.toMessage_source, r.toMessage_tag, ?_, rfl⟩
    rw [r.toMessage_status]
    cases r.status <;> rfl
  · refine ⟨r.toMessage_source, r.toMessage_tag, ?_, r.toMessage_header_lt, rfl⟩
    rw [r.toMessage_status]
    cases r.status <;> rfl

end Sys2Proof
end

section
/-! Commands that write one thing: settings, flags of a stream, slots, the accounting state, the capture queue, and SOFT
RESET (R30, R34, R43, R45, R92, R102, R133, R134, R155, R157, R173). -/

namespace Sys2Proof.Machine

variable {s t : State} {c : Instr} {code : Byte} {owner : State → Reply}

/-! ### The answer of an owner -/

/-- A command that its owner takes is answered OK with the owner's data (R170). -/
theorem exec_of_ok (hexec : exec c s = .next (s.runCommand code owner)) (hframe : s.inFrame = true)
    (hsample : s.accounting.sampleDue = none) {d : List Byte} (h : owner s = .ok t d) :
    exec c s = .next (t.answered code .ok d) := by
  rw [hexec, s.runCommand_inFrame _ _ hframe hsample, h]
  rfl

/-- A command that its owner turns away is answered with the status and changes nothing else (R170). -/
theorem exec_of_turnedAway (hexec : exec c s = .next (s.runCommand code owner)) (hframe : s.inFrame = true)
    (hsample : s.accounting.sampleDue = none) {st : Status} (h : owner s = .turnedAway s st) :
    exec c s = .next (s.answered code st []) := by
  rw [hexec, s.runCommand_inFrame _ _ hframe hsample, h]
  rfl

/-- An entry put back as it is changes nothing. -/
theorem State.setStream_self (i : StreamIx) : s.setStream i s.streams[i] = s := by
  rw [State.setStream, setAt_self]

/-! ### Bytes of small answers -/

theorem leBytes_two (n : BitVec 16) : leBytes 2 n.toNat = [n.setWidth 8, (n >>> 8).setWidth 8] := by
  have hlow : BitVec.ofNat 8 n.toNat = n.setWidth 8 := by
    apply BitVec.eq_of_toNat_eq
    simp
  have hhigh : BitVec.ofNat 8 (n.toNat / 256) = (n >>> 8).setWidth 8 := by
    apply BitVec.eq_of_toNat_eq
    simp [Nat.shiftRight_eq_div_pow]
  rw [leBytes, leBytes, leBytes, hlow, hhigh]

theorem boolByte_decide (p : Prop) [Decidable p] : boolByte (decide p) = if p then 1 else 0 := by
  simp [boolByte]

/-! ### The slots that RECLAIM reaches -/

theorem Slot.inStage_eq_false_iff {u : Slot} {g : SlotStage} : u.inStage g = false ↔ ∀ q, u.use ≠ .busy g q := by
  rw [← Bool.not_eq_true, Slot.inStage_iff, not_exists]

theorem Slot.reclaimed_of_orphaned {u : Slot} {q : SlotRequest} (h : u.use = .busy .orphaned q) :
    u.reclaimed = { generation := u.generation, use := .free } :=
  if_pos (Slot.inStage_iff.mpr ⟨q, h⟩)

theorem Slot.reclaimed_of_other {u : Slot} (h : ∀ q, u.use ≠ .busy .orphaned q) : u.reclaimed = u :=
  if_neg (by simp [Slot.inStage_eq_false_iff.mpr h])

/-! ### SOFT RESET -/

/-- Power-on gives the same whatever the part was, but for the level of NLRST_N and the model's own records. -/
theorem State.powerOn_congr (hnlrst : t.nlrst = s.nlrst) (hnorth : t.northSent = s.northSent)
    (hsouth : t.southSent = s.southSent) (hpending : t.pending = s.pending) :
    t.powerOn = { s.powerOn with mgmt := t.powerOn.mgmt, freeDrawn := t.freeDrawn } := by
  unfold State.powerOn State.portAfterReset
  rw [hnlrst, hnorth, hsouth, hpending]

theorem State.rstAsserted_cutFrame_powerOn (s : State) :
    s.rstAsserted.cutFrame.powerOn =
      { s.powerOn with
        mgmt := s.rstAsserted.cutFrame.powerOn.mgmt, freeDrawn := s.rstAsserted.cutFrame.freeDrawn } := by
  have hkept : s.rstAsserted.cutFrame.nlrst = s.nlrst ∧ s.rstAsserted.cutFrame.northSent = s.northSent ∧
      s.rstAsserted.cutFrame.southSent = s.southSent ∧ s.rstAsserted.cutFrame.pending = s.pending := by
    obtain h | h := s.rstAsserted.cutFrame_cases <;> rw [h] <;> exact ⟨rfl, rfl, rfl, rfl⟩
  obtain ⟨hnlrst, hnorth, hsouth, hpending⟩ := hkept
  exact State.powerOn_congr hnlrst hnorth hsouth hpending

theorem State.inFrame_rst (h : s.inFrame = true) : s.rst = false := by
  cases hrst : s.rst with
  | false => rfl
  | true => simp [State.inFrame, hrst] at h

theorem exec_softReset_of_traffic (hframe : s.inFrame = true) (hsample : s.accounting.sampleDue = none)
    (h : s.entries ≠ [] ∨ ∃ i : SlotIx, s.slots[i].use ≠ .free) :
    exec .softReset s = .next (s.answered 0x02 .busy []) := by
  refine exec_of_turnedAway rfl hframe hsample (if_neg ?_)
  intro hidle
  obtain ⟨hlist, hslots⟩ := Bool.and_eq_true_iff.mp hidle
  obtain hentry | ⟨i, hi⟩ := h
  · exact hentry (List.isEmpty_iff.mp hlist)
  · exact hi (State.slotsNotFree_eq_zero_iff.mp (beq_iff_eq.mp hslots) i)

end Sys2Proof.Machine

namespace Sys2Proof

open Machine

/-- Settles O38: the range of each setting. -/
theorem settingCommandsSetOneSetting : Obligations.SettingCommandsSetOneSetting := by
  unfold Obligations.SettingCommandsSetOneSetting
  intro s hframe hsample
  refine ⟨fun p => ⟨fun hlow hhigh => ?_, fun hout => ?_⟩, fun a => ⟨fun hlow => ?_, fun hout => ?_⟩,
    fun v => ⟨fun hhigh => ?_, fun hout => ?_⟩⟩
  · exact exec_of_ok rfl hframe hsample (if_pos ⟨hlow, hhigh⟩)
  · exact exec_of_turnedAway rfl hframe hsample (if_neg (by omega))
  · refine ⟨windowSettings a, exec_of_ok rfl hframe hsample (if_pos hlow), rfl, fun ch => ?_⟩
    exact mapAll_fin (fun c : ChannelArgs => ({ offset := c.offset.toNat, width := c.width.toNat } : Channel)) a.channels ch
  · exact exec_of_turnedAway rfl hframe hsample (if_neg (by omega))
  · exact exec_of_ok rfl hframe hsample (if_pos hhigh)
  · exact exec_of_turnedAway rfl hframe hsample (if_neg (by omega))

/-- Settles O42: the flag of one entry, which may be as it was. -/
theorem pauseAndResumeSetTheFlag : Obligations.PauseAndResumeSetTheFlag := by
  unfold Obligations.PauseAndResumeSetTheFlag
  intro b s hframe hsample
  have hpause : ∀ i : StreamIx, b.toNat = i.val →
      exec (.streamPause b) s = .next ((s.setStream i { s.streams[i] with paused := true }).answered 0x13 .ok []) :=
    fun i hb => exec_of_ok rfl hframe hsample (by simp only [indexArg_of_eq hb])
  have hresume : ∀ i : StreamIx, b.toNat = i.val →
      exec (.streamResume b) s = .next ((s.setStream i { s.streams[i] with paused := false }).answered 0x14 .ok []) :=
    fun i hb => exec_of_ok rfl hframe hsample (by simp only [indexArg_of_eq hb])
  refine ⟨fun i hb => ⟨hpause i hb, hresume i hb, fun hset => ?_, fun hset => ?_⟩, fun hlarge => ⟨?_, ?_⟩⟩
  · have hkept : { s.streams[i] with paused := true } = s.streams[i] := by rw [← hset]
    rw [hpause i hb, hkept, State.setStream_self]
  · have hkept : { s.streams[i] with paused := false } = s.streams[i] := by rw [← hset]
    rw [hresume i hb, hkept, State.setStream_self]
  · exact exec_of_turnedAway rfl hframe hsample (by simp only [indexArg_of_large hlarge])
  · exact exec_of_turnedAway rfl hframe hsample (by simp only [indexArg_of_large hlarge])

/-- Settles O44: the generator stopped, or left as it is. -/
theorem windowStopEndsTheWindow : Obligations.WindowStopEndsTheWindow := by
  unfold Obligations.WindowStopEndsTheWindow
  intro s hframe hsample
  refine ⟨fun hrunning => exec_of_ok rfl hframe hsample ?_, fun hstopped => exec_of_ok rfl hframe hsample ?_⟩
  · rw [WindowGen.stop, if_pos hrunning]
    rfl
  · rw [WindowGen.stop, if_neg (by simp [hstopped])]
    rfl

/-- Settles O47: the accounting state in each of the two states. -/
theorem freezeAndUnfreezeSetTheState : Obligations.FreezeAndUnfreezeSetTheState := by
  unfold Obligations.FreezeAndUnfreezeSetTheState
  intro s hframe hsample with_
  have hfreeze : exec .freeze s = .next ((with_ s.accounting.state.freeze).answered 0x43 .ok []) :=
    exec_of_ok rfl hframe hsample rfl
  have hunfreeze : exec .unfreeze s = .next ((with_ .counting).answered 0x44 .ok []) :=
    exec_of_ok rfl hframe hsample rfl
  have hkept : with_ s.accounting.state = s := rfl
  refine ⟨fun hcounting => ⟨?_, ?_⟩, fun c hfrozen => ⟨?_, ?_⟩⟩
  · rw [hfreeze, hcounting]
    rfl
  · rw [hunfreeze, ← hcounting, hkept]
  · have hsame : s.accounting.state.freeze = s.accounting.state := by rw [hfrozen]; rfl
    rw [hfreeze, hsame, hkept]
  · exact hunfreeze

/-- Settles O50: one attempt with cause COMMAND, and the release of the oldest record. -/
theorem captureNowAndRelease : Obligations.CaptureNowAndRelease := by
  unfold Obligations.CaptureNowAndRelease
  intro s hframe hsample
  refine ⟨?_, fun hempty => exec_of_turnedAway rfl hframe hsample (by simp only [hempty]), fun r rest hrecords => ?_⟩
  · refine exec_of_ok rfl hframe hsample ?_
    rw [leBytes_two, boolByte_decide]
    rfl
  · have hrelease : exec .captureRelease s =
        .next (({ s with capture := { s.capture with records := rest } } : State).answered 0x63 .ok
          [r.number.setWidth 8, (r.number >>> 8).setWidth 8]) :=
      exec_of_ok rfl hframe hsample (by simp only [hrecords, leBytes_two]; rfl)
    refine ⟨hrelease, fun t ht => ?_⟩
    rw [hrelease] at ht
    cases ht
    rw [State.causePending_answered, State.causePending_capture]
    simp

/-- Settles O45: one slot by its index, and every ORPHANED slot. -/
theorem reclaimFreesOrphanedSlots : Obligations.ReclaimFreesOrphanedSlots := by
  unfold Obligations.ReclaimFreesOrphanedSlots
  intro b s hframe hsample
  refine ⟨fun hlarge hnot => ?_, fun i hb => ?_, mapAll Slot.reclaimed s.slots, ?_, fun i => ⟨fun q hq => ?_, fun h => ?_⟩⟩
  · exact exec_of_turnedAway rfl hframe hsample (by simp only [if_neg hnot, indexArg_of_large hlarge])
  · have hnot : b ≠ 0xFF := by
      rintro rfl
      have := i.isLt
      simp at hb
      omega
    refine ⟨fun q hq => exec_of_ok rfl hframe hsample ?_, fun h => exec_of_turnedAway rfl hframe hsample ?_⟩
    · simp only [if_neg hnot, indexArg_of_eq hb, Slot.inStage_iff.mpr ⟨q, hq⟩, if_true]
      rfl
    · simp only [if_neg hnot, indexArg_of_eq hb, Slot.inStage_eq_false_iff.mpr h]
      rfl
  · refine exec_of_ok rfl hframe hsample ?_
    rw [State.slotsIn, countWhere_eq_countP_finRange, List.countP_eq_length_filter]
    rfl
  · rw [mapAll_fin, Slot.reclaimed_of_orphaned hq]
  · rw [mapAll_fin, Slot.reclaimed_of_other h]

/-- Settles O51: BUSY with traffic, and otherwise the power-on values that an assertion and a release give too. -/
theorem softResetNeedsAnIdlePart : Obligations.SoftResetNeedsAnIdlePart := by
  unfold Obligations.SoftResetNeedsAnIdlePart
  intro s hframe hsample
  refine ⟨exec_softReset_of_traffic hframe hsample, fun hlist hslots => ⟨s.softReset, ?_, rfl, ?_, fun u v hu hv => ?_⟩⟩
  · rw [exec_softReset_of_idle hframe hlist hslots, s.settleSample_none hsample]
  · exact State.inFrame_rst hframe
  · rw [exec_rstAssert_of_released (State.inFrame_rst hframe)] at hu
    cases hu
    rw [exec_rstRelease_of_rst rfl] at hv
    cases hv
    rw [State.rstAsserted_cutFrame_powerOn, State.softReset, State.inFrame_rst hframe]
    rfl

end Sys2Proof
end

section
/-! The arguments of STREAM WRITE and COUNTER SET (R25, R126, TABLES 18 and 87), and the commands that write the stream
table and the counters. -/

namespace Sys2Proof.Machine

/-! ### Argument codes -/

theorem boolArg_eq (b : Byte) : boolArg b = if b.toNat ≤ 1 then some (b.getLsbD 0) else none := by
  revert b
  decide

theorem kindsArg_eq (b : Byte) :
    kindsArg b =
      if 1 ≤ b.toNat ∧ b.toNat ≤ 3 then some { read := b.getLsbD 0, write := b.getLsbD 1 } else none := by
  revert b
  decide

theorem policyArg_eq (b : Byte) :
    policyArg b = if b.toNat ≤ 1 then some (if b = 0 then .stall else .refuse) else none := by
  revert b
  decide

theorem bindingArg_any : bindingArg 0xFF = some none := rfl

theorem bindingArg_of_channel {b : Byte} {c : ChannelIx} (h : b.toNat = c.val) : bindingArg b = some (some c) := by
  have hne : b ≠ 0xFF := by
    rintro rfl
    have := c.isLt
    simp at h
    omega
  rw [bindingArg, if_neg hne, indexArg_of_eq h]
  rfl

theorem exists_bindingArg_iff {b : Byte} : (∃ v, bindingArg b = some v) ↔ b.toNat ≤ 3 ∨ b.toNat = 255 := by
  constructor
  · rintro ⟨v, hv⟩
    by_cases hany : b = 0xFF
    · exact .inr (congrArg BitVec.toNat hany)
    · rw [bindingArg, if_neg hany] at hv
      obtain ⟨c, hc, -⟩ := Option.map_eq_some_iff.mp hv
      have hcode := indexArg_eq_some_iff.mp hc
      omega
  · rintro (hchannel | hany)
    · exact ⟨_, bindingArg_of_channel (c := ⟨b.toNat, by omega⟩) rfl⟩
    · obtain rfl : b = 0xFF := BitVec.eq_of_toNat_eq hany
      exact ⟨none, bindingArg_any⟩

theorem eventArg_eq_some_iff {b : Byte} {e : Event} : eventArg b = some e ↔ eventByte e = b := by
  constructor
  · intro h
    unfold eventArg at h
    split at h <;> cases h
    all_goals exact BitVec.eq_of_toNat_eq (Eq.symm ‹_›)
  · rintro rfl
    cases e <;> rfl

theorem exists_eventArg_iff {b : Byte} : (∃ e, eventArg b = some e) ↔ b.toNat ≤ 17 := by
  constructor
  · rintro ⟨e, he⟩
    rw [← eventArg_eq_some_iff.mp he]
    cases e <;> decide
  · intro h
    have hall : ∀ n : Fin 18, (eventArg (BitVec.ofNat 8 n)).isSome = true := by decide
    have hb : BitVec.ofNat 8 b.toNat = b := by simp
    have := hall ⟨b.toNat, by omega⟩
    rw [hb] at this
    exact Option.isSome_iff_exists.mp this

/-- The sample events are those of codes 14 to 17 (TABLE 61). -/
theorem Event.isSample_iff (e : Event) : e.isSample = true ↔ 14 ≤ (eventByte e).toNat := by
  cases e <;> decide

theorem Event.eq_balanceLevel_iff (e : Event) : e = .balanceLevel ↔ (eventByte e).toNat = 17 := by
  cases e <;> decide

/-! ### STREAM WRITE -/

section StreamWrite

variable {a : StreamWriteArgs}

/-- The match arguments that TABLE 18 accepts. -/
def matchAccepted (a : StreamWriteArgs) : Prop :=
  a.sourceLow.toNat ≤ a.sourceHigh.toNat ∧ a.sourceHigh.toNat ≤ 63 ∧ a.pageBase.toNat ≤ a.pageLimit.toNat ∧
    a.pageLimit.toNat ≤ 2 ^ 28 - 1 ∧ 1 ≤ a.kinds.toNat ∧ a.kinds.toNat ≤ 3

/-- The match fields that accepted arguments encode. -/
def matchFields (a : StreamWriteArgs) : MatchFields :=
  { sourceLow := BitVec.ofNat 6 a.sourceLow.toNat, sourceHigh := BitVec.ofNat 6 a.sourceHigh.toNat
    pageBase := BitVec.ofNat 28 a.pageBase.toNat, pageLimit := BitVec.ofNat 28 a.pageLimit.toNat
    kinds := { read := a.kinds.getLsbD 0, write := a.kinds.getLsbD 1 } }

theorem matchArgs_of_accepted (h : matchAccepted a) : matchArgs a = some (matchFields a) := by
  obtain ⟨hsource, hhigh, hpage, hlimit, hkinds⟩ := h
  rw [matchArgs, if_pos ⟨by omega, by omega, hsource, by omega, by omega, hpage⟩, kindsArg_eq, if_pos hkinds]
  rfl

theorem matchAccepted_of_some {f : MatchFields} (h : matchArgs a = some f) : matchAccepted a := by
  unfold matchArgs at h
  split at h
  · next hr =>
    obtain ⟨k, hk, -⟩ := Option.map_eq_some_iff.mp h
    rw [kindsArg_eq] at hk
    split at hk
    · next hkinds => exact ⟨hr.2.2.1, by omega, hr.2.2.2.2.2, by omega, hkinds⟩
    · cases hk
  · cases h

/-- Accepted match fields keep the arguments' numbers: none is too large for its field. -/
theorem matchFields_toNat (h : matchAccepted a) :
    (matchFields a).sourceLow.toNat = a.sourceLow.toNat ∧ (matchFields a).sourceHigh.toNat = a.sourceHigh.toNat ∧
      (matchFields a).pageBase.toNat = a.pageBase.toNat ∧ (matchFields a).pageLimit.toNat = a.pageLimit.toNat := by
  obtain ⟨hsource, hhigh, hpage, hlimit, -⟩ := h
  simp only [matchFields, BitVec.toNat_ofNat]
  omega

/-- The treatment arguments that TABLE 18 accepts. -/
def treatmentAccepted (a : StreamWriteArgs) : Prop :=
  a.rank.toNat ≤ 3 ∧ 1 ≤ a.holdLimit.toNat ∧ a.holdLimit.toNat ≤ 32 ∧ a.policy.toNat ≤ 1

theorem exists_treatmentArgs (h : treatmentAccepted a) :
    ∃ rank : Fin 4, rank.val = a.rank.toNat ∧
      treatmentArgs a = some (rank, a.holdLimit.toNat, if a.policy = 0 then .stall else .refuse) := by
  obtain ⟨hrank, hlow, hhigh, hpolicy⟩ := h
  have hindex : indexArg 4 a.rank = some ⟨a.rank.toNat, Nat.lt_succ_of_le hrank⟩ := indexArg_of_eq rfl
  refine ⟨⟨a.rank.toNat, Nat.lt_succ_of_le hrank⟩, rfl, ?_⟩
  rw [treatmentArgs, hindex, policyArg_eq, if_pos hpolicy]
  exact if_pos ⟨hlow, hhigh⟩

theorem treatmentAccepted_of_some {t : Fin 4 × Nat × Policy} (h : treatmentArgs a = some t) : treatmentAccepted a := by
  unfold treatmentArgs at h
  split at h
  · next rank policy hrank hpolicy =>
    split at h
    · next hlimit =>
      have hcode := indexArg_eq_some_iff.mp hrank
      rw [policyArg_eq] at hpolicy
      split at hpolicy
      · next hle => exact ⟨by omega, hlimit.1, hlimit.2, hle⟩
      · cases hpolicy
    · cases h
  · cases h

/-- The regulation arguments that TABLE 18 accepts. -/
def regulationAccepted (a : StreamWriteArgs) : Prop :=
  a.budgetEnable.toNat ≤ 1 ∧ a.allotment.toNat ≤ 1048576 ∧ 256 ≤ a.ceiling.toNat ∧ a.ceiling.toNat ≤ 2097152 ∧
    (a.phaseBinding.toNat ≤ 3 ∨ a.phaseBinding.toNat = 255)

theorem exists_regulationArgs (h : regulationAccepted a) :
    ∃ binding, bindingArg a.phaseBinding = some binding ∧
      regulationArgs a = some
        { budgetEnable := a.budgetEnable.getLsbD 0, allotment := a.allotment.toNat, ceiling := a.ceiling.toNat
          phaseBinding := binding } := by
  obtain ⟨henable, hallotment, hlow, hhigh, hbinding⟩ := h
  obtain ⟨binding, hb⟩ := exists_bindingArg_iff.mpr hbinding
  refine ⟨binding, hb, ?_⟩
  rw [regulationArgs, boolArg_eq, if_pos henable, hb]
  exact if_pos ⟨hallotment, hlow, hhigh⟩

theorem regulationAccepted_of_some {r : Regulation} (h : regulationArgs a = some r) : regulationAccepted a := by
  unfold regulationArgs at h
  split at h
  · next en binding hen hbinding =>
    split at h
    · next hlimits =>
      rw [boolArg_eq] at hen
      split at hen
      · next hle => exact ⟨hle, hlimits.1, hlimits.2.1, hlimits.2.2, exists_bindingArg_iff.mp ⟨_, hbinding⟩⟩
      · cases hen
    · cases h
  · cases h

theorem streamWriteAccepted_iff :
    streamWriteAccepted a ↔ (a.index ≠ 0 → matchAccepted a) ∧ treatmentAccepted a ∧ regulationAccepted a := by
  unfold streamWriteAccepted matchAccepted treatmentAccepted regulationAccepted
  tauto

theorem index_eq_zero_iff {b : Byte} {i : StreamIx} (h : b.toNat = i.val) : b = 0 ↔ i = 0 := by
  rw [← BitVec.toNat_inj, Fin.ext_iff, h]
  rfl

end StreamWrite

/-! ### COUNTER SET -/

section CounterSet

variable {a : CounterSetArgs}

/-- The configuration that event, filter and flags make (TABLE 60). -/
def counterConfig (a : CounterSetArgs) (event : Event) (filter : Option StreamIx) : CounterConfig :=
  { enable := a.flags.getLsbD 0, event := event, filter := filter, threshold := a.threshold.toNat
    test := if a.flags.getLsbD 1 then .below else .atLeast
    accumulate := if a.flags.getLsbD 2 then .sum else .count
    edge := a.flags.getLsbD 3, freezeOnOverflow := a.flags.getLsbD 4 }

theorem filterArg_eq_none_iff {b : Byte} : filterArg b = some none ↔ b.toNat = 255 := by
  constructor
  · intro h
    by_cases hany : b = 0xFF
    · exact congrArg BitVec.toNat hany
    · rw [filterArg, if_neg hany] at h
      obtain ⟨i, -, hi⟩ := Option.map_eq_some_iff.mp h
      cases hi
  · intro h
    obtain rfl : b = 0xFF := BitVec.eq_of_toNat_eq h
    rfl

/-- What R126 refuses of a known event, filter and flag byte. -/
theorem counterRefused_iff {event : Event} {filter : Option StreamIx} (hevent : eventArg a.event = some event)
    (hfilter : filterArg a.filter = some filter) :
    ((a.flags.getLsbD 3 && !event.isSample) || (event == .balanceLevel && filter == none)) = false ↔
      (a.flags.getLsbD 3 = true → 14 ≤ a.event.toNat) ∧ (a.event.toNat = 17 → a.filter.toNat ≠ 255) := by
  have hbyte := eventArg_eq_some_iff.mp hevent
  have hany : filter = none ↔ a.filter.toNat = 255 := by
    rw [← filterArg_eq_none_iff, hfilter]
    simp
  rw [Bool.or_eq_false_iff, ← hbyte, ← Event.isSample_iff, ← Event.eq_balanceLevel_iff, Ne, ← hany]
  refine and_congr ?_ ?_
  · cases a.flags.getLsbD 3 <;> simp
  · simp [Option.isSome_iff_ne_none]

theorem exists_counterArgs (h : counterSetAccepted a) :
    ∃ event filter, eventArg a.event = some event ∧ filterArg a.filter = some filter ∧
      counterArgs a = some (counterConfig a event filter) := by
  obtain ⟨hevent, hfilter, hflags, hrules⟩ := h
  obtain ⟨event, he⟩ := exists_eventArg_iff.mpr hevent
  obtain ⟨filter, hf⟩ := exists_filterArg_iff.mpr hfilter
  have hgiven : flagsArg 5 a.flags = some a.flags.getLsbD := if_pos (by omega)
  refine ⟨event, filter, he, hf, ?_⟩
  rw [counterArgs, he, hf, hgiven]
  exact if_neg (Bool.not_eq_true _ ▸ (counterRefused_iff he hf).mpr hrules)

theorem counterSetAccepted_of_some {c : CounterConfig} (h : counterArgs a = some c) : counterSetAccepted a := by
  unfold counterArgs at h
  split at h
  · next event filter flag he hf hflag =>
    split at h
    · cases h
    · next hrules =>
      unfold flagsArg at hflag
      split at hflag
      · next hsmall =>
        cases hflag
        exact ⟨exists_eventArg_iff.mp ⟨_, he⟩, exists_filterArg_iff.mp ⟨_, hf⟩, by omega,
          (counterRefused_iff he hf).mp (Bool.eq_false_of_not_eq_true hrules)⟩
      · cases hflag
  · cases h

end CounterSet

theorem clearFlags_fin (mask : Byte) (v : Vector Counter 8) (i : CounterIx) :
    (clearFlags mask v)[i] = if mask.getLsbD i.val then { v[i] with overflow := false } else v[i] := by
  unfold clearFlags
  rw [ofFn_fin]

end Sys2Proof.Machine

namespace Sys2Proof

open Machine

/-- Settles O39: accepted arguments, and the entry that they write. -/
theorem streamWriteTakesOrStages : Obligations.StreamWriteTakesOrStages := by
  unfold Obligations.StreamWriteTakesOrStages
  intro a i s old hframe hsample hindex haccepted
  obtain ⟨hmatch, htreatment, hregulation⟩ := streamWriteAccepted_iff.mp haccepted
  obtain ⟨rank, hrank, htreatmentArgs⟩ := exists_treatmentArgs htreatment
  obtain ⟨binding, hbinding, hregulationArgs⟩ := exists_regulationArgs hregulation
  have hfields : matchFor old i a = some (if i = 0 then old.fields else matchFields a) := by
    unfold matchFor
    split
    · rfl
    · next hne => exact matchArgs_of_accepted (hmatch (mt (index_eq_zero_iff hindex).mp hne))
  generalize hreg : (Regulation.mk (a.budgetEnable.getLsbD 0) a.allotment.toNat a.ceiling.toNat binding) = reg
    at hregulationArgs
  generalize htr : (rank, a.holdLimit.toNat, if a.policy = 0 then Policy.stall else .refuse) = treatment
    at htreatmentArgs
  refine ⟨old.written (if i = 0 then old.fields else matchFields a) treatment reg, reg,
    exec_of_ok rfl hframe hsample ?_, rfl, htr ▸ hrank, htr ▸ rfl, htr ▸ rfl, rfl, fun hzero => if_pos hzero, fun hne => ?_, ⟨hreg ▸ rfl, hreg ▸ rfl, hreg ▸ rfl, fun hany => ?_, fun c hc => ?_⟩, rfl,
    fun hvalid => ⟨if_pos hvalid, if_pos hvalid⟩, fun hinvalid => ⟨if_neg (by simp [hinvalid]), ?_⟩⟩
  · simp only [indexArg_of_eq hindex]
    rw [show matchFor s.streams[i] i a = _ from hfields, htreatmentArgs, hregulationArgs]
    rfl
  · have hwritten : (old.written (if i = 0 then old.fields else matchFields a) treatment reg).fields = matchFields a := if_neg hne
    rw [hwritten]
    obtain ⟨hlow, hhigh, hbase, hlimit⟩ := matchFields_toNat (hmatch (mt (index_eq_zero_iff hindex).mp hne))
    exact ⟨hlow, hhigh, hbase, hlimit, rfl, rfl⟩
  · rw [hany, bindingArg_any] at hbinding
    rw [← hreg]
    exact (Option.some.inj hbinding).symm
  · rw [bindingArg_of_channel hc] at hbinding
    rw [← hreg]
    exact (Option.some.inj hbinding).symm
  · exact if_neg (by simp [hinvalid])

/-- Settles O40: the index is judged first, and then any argument refused gives BAD_ARG. -/
theorem streamWriteIsJudgedFirst : Obligations.StreamWriteIsJudgedFirst := by
  unfold Obligations.StreamWriteIsJudgedFirst
  intro a s hframe hsample
  refine ⟨fun hlarge => exec_of_turnedAway rfl hframe hsample (by simp only [indexArg_of_large hlarge]),
    fun hsmall hrefused => exec_of_turnedAway rfl hframe hsample ?_⟩
  have hindex : a.index.toNat = (⟨a.index.toNat, hsmall⟩ : StreamIx).val := rfl
  simp only [indexArg_of_eq hindex]
  split
  · next fields treatment regulation hfields htreatment hregulation =>
    refine absurd (streamWriteAccepted_iff.mpr ⟨fun hne => ?_, treatmentAccepted_of_some htreatment,
      regulationAccepted_of_some hregulation⟩) hrefused
    rw [matchFor, if_neg (mt (index_eq_zero_iff hindex).mpr hne)] at hfields
    exact matchAccepted_of_some hfields
  · rfl

/-- Settles O46: the configuration that accepted arguments encode, one value, and the flags of a mask. -/
theorem counterCommandsWriteTheirPart : Obligations.CounterCommandsWriteTheirPart := by
  unfold Obligations.CounterCommandsWriteTheirPart
  intro s hframe hsample with_
  refine ⟨fun a => ⟨fun hlarge => ?_, fun hsmall hrefused => ?_, fun i hindex haccepted => ?_⟩,
    fun b v => ⟨fun hlarge => ?_, fun i hindex => ?_⟩, fun mask => ?_⟩
  · exact exec_of_turnedAway rfl hframe hsample (by simp only [indexArg_of_large hlarge])
  · refine exec_of_turnedAway rfl hframe hsample ?_
    have hindex : a.index.toNat = (⟨a.index.toNat, hsmall⟩ : CounterIx).val := rfl
    simp only [indexArg_of_eq hindex]
    split
    · rfl
    · next c hc => exact absurd (counterSetAccepted_of_some hc) hrefused
  · obtain ⟨event, filter, hevent, hfilter, hargs⟩ := exists_counterArgs haccepted
    refine ⟨counterConfig a event filter, exec_of_ok rfl hframe hsample ?_, eventArg_eq_some_iff.mp hevent, rfl,
      fun hany => ?_, fun k hk => ?_, rfl, rfl, rfl, rfl, rfl⟩
    · simp only [indexArg_of_eq hindex, hargs]
      rfl
    · rw [hany, filterArg_any] at hfilter
      exact (Option.some.inj hfilter).symm
    · rw [filterArg_of_stream hk] at hfilter
      exact (Option.some.inj hfilter).symm
  · exact exec_of_turnedAway rfl hframe hsample (by simp only [indexArg_of_large hlarge])
  · refine exec_of_ok rfl hframe hsample ?_
    simp only [indexArg_of_eq hindex]
    rfl
  · exact ⟨clearFlags mask s.accounting.counters, exec_of_ok rfl hframe hsample rfl, clearFlags_fin mask _⟩

end Sys2Proof
end

section
/-! STREAM DELETE and STREAM PURGE (R28, R29, R81): the levels that a conversion moves, counted entry by entry. -/

namespace Sys2Proof.Machine

variable {s : State} {i : StreamIx}

/-! ### STREAM DELETE -/

theorem StreamEntry.deleted_of_valid {e : StreamEntry} (h : e.valid = true) :
    e.deleted = { e with valid := false, active := .reset, staged := .reset, balance := 0 } := if_pos h

theorem StreamEntry.deleted_of_not_valid {e : StreamEntry} (h : e.valid = false) : e.deleted = e :=
  if_neg (by simp [h])

theorem exec_streamDelete_of_waiting {b : Byte} (hframe : s.inFrame = true) (hsample : s.accounting.sampleDue = none)
    (hb : b.toNat = i.val) (hi : i ≠ 0) (hwaiting : s.waitingCount i ≠ 0) :
    exec (.streamDelete b) s = .next (s.answered 0x12 .busy []) := by
  refine exec_of_turnedAway rfl hframe hsample ?_
  simp only [indexArg_of_eq hb]
  rw [if_neg hi, if_pos (Nat.pos_of_ne_zero hwaiting)]

theorem exec_streamDelete_of_idle {b : Byte} (hframe : s.inFrame = true) (hsample : s.accounting.sampleDue = none)
    (hb : b.toNat = i.val) (hi : i ≠ 0) (hidle : s.waitingCount i = 0) :
    exec (.streamDelete b) s = .next ((s.setStream i s.streams[i].deleted).retry.answered 0x12 .ok []) := by
  refine exec_of_ok rfl hframe hsample ?_
  simp only [indexArg_of_eq hb]
  rw [if_neg hi, if_neg (by rw [hidle]; exact Nat.lt_irrefl 0)]

/-! ### STREAM PURGE -/

theorem State.waitingOf_eq (i : StreamIx) :
    s.waitingOf i = s.entries.filter fun e => e.state = .waiting ∧ e.stream = i := by
  refine List.filter_congr fun e _ => Bool.eq_iff_iff.mpr ?_
  simp [PendingEntry.isWaiting]

theorem PendingEntry.purged_eq (i : StreamIx) (e : PendingEntry) :
    e.purged i =
      if e.state = .waiting ∧ e.stream = i then { e with state := .replyOwed .aborted, data := [] } else e := by
  split
  · next h => exact PendingEntry.purged_of_waiting (PendingEntry.isWaiting_iff.mpr h.1) h.2
  · next h => exact PendingEntry.purged_of_not fun hw => h ⟨PendingEntry.isWaiting_iff.mp hw.1, hw.2⟩

theorem State.purge_entries (i : StreamIx) : (s.purge i).entries = s.entries.map (PendingEntry.purged i) := by
  rw [State.purge, State.emit_entries]

/-- After a purge no entry of the stream waits. -/
theorem State.purge_waitingCount : (s.purge i).waitingCount i = 0 := by
  rw [State.waitingCount, State.purge_entries, List.countP_map, List.countP_eq_zero]
  intro e _
  by_cases h : e.isWaiting = true ∧ e.stream = i
  · simp [PendingEntry.purged_of_waiting h.1 h.2, PendingEntry.isWaiting]
  · simpa [PendingEntry.purged_of_not h] using h

/-- A purge adds the entries it converts to those in REPLY_OWED. -/
theorem State.purge_owedCount : (s.purge i).owedCount i = s.owedCount i + (s.waitingOf i).length := by
  rw [State.owedCount, State.purge_entries, State.owedCount, State.waitingOf]
  induction s.entries with
  | nil => rfl
  | cons e l ih =>
    by_cases h : e.isWaiting = true ∧ e.stream = i
    · have howed : (e.purged i).isWaiting = false ∧ (e.purged i).stream = i := by
        rw [PendingEntry.purged_of_waiting h.1 h.2]
        exact ⟨rfl, h.2⟩
      rw [List.map_cons, List.countP_cons_of_pos (by simp [howed]), ih, List.countP_cons_of_neg (by simp [h]),
        List.filter_cons_of_pos (by simp [h]), List.length_cons]
      omega
    · rw [List.map_cons, PendingEntry.purged_of_not h, List.countP_cons, ih, List.countP_cons,
        List.filter_cons_of_neg (by simpa using h)]
      omega

/-- A purge gives up the pool beats of its stream, and no others (R70, R81). -/
theorem State.purge_poolInUse : (s.purge i).poolInUse + s.poolHeld i = s.poolInUse := by
  rw [State.poolInUse, State.purge_entries, State.poolHeld, State.poolInUse]
  induction s.entries with
  | nil => rfl
  | cons e l ih =>
    by_cases hstream : e.stream = i
    · have hbeats : (e.purged i).poolBeats = 0 := by
        by_cases hw : e.isWaiting = true
        · rw [PendingEntry.purged_of_waiting hw hstream]
          exact PendingEntry.poolBeats_of_owed rfl
        · rw [PendingEntry.purged_of_not (fun h => hw h.1)]
          exact PendingEntry.poolBeats_of_owed (Bool.eq_false_of_not_eq_true hw)
      rw [List.filter_cons_of_pos (by simp [hstream])]
      simp only [List.map_cons, List.sum_cons, hbeats]
      omega
    · rw [List.filter_cons_of_neg (by simp [hstream]), List.map_cons, PendingEntry.purged_of_not fun h => hstream h.2]
      simp only [List.map_cons, List.sum_cons]
      omega

end Sys2Proof.Machine

namespace Sys2Proof

open Machine

/-- Settles O41: the index, a WAITING entry, and the entry that is left. -/
theorem streamDeleteEndsTheStream : Obligations.StreamDeleteEndsTheStream := by
  unfold Obligations.StreamDeleteEndsTheStream
  intro b s hframe hsample
  refine ⟨fun hindex => exec_of_turnedAway rfl hframe hsample ?_, fun i hb hi => ⟨?_, fun hidle hvalid => ?_,
    fun hidle hinvalid => ?_⟩⟩
  · obtain rfl | hlarge := hindex
    · rfl
    · simp only [indexArg_of_large hlarge]
  · exact exec_streamDelete_of_waiting hframe hsample hb hi
  · rw [exec_streamDelete_of_idle hframe hsample hb hi hidle, StreamEntry.deleted_of_valid hvalid]
    rfl
  · rw [exec_streamDelete_of_idle hframe hsample hb hi hidle, StreamEntry.deleted_of_not_valid hinvalid,
      State.setStream_self]

/-- Settles O43: the conversion in place, and the levels of the stream after it. -/
theorem streamPurgeAbortsTheStream : Obligations.StreamPurgeAbortsTheStream := by
  unfold Obligations.StreamPurgeAbortsTheStream
  intro b s hframe hsample
  refine ⟨fun hlarge => exec_of_turnedAway rfl hframe hsample (by simp only [indexArg_of_large hlarge]), fun i hb => ?_⟩
  intro l
  have hl : s.waitingOf i = l := State.waitingOf_eq i
  refine ⟨fun hnone => exec_of_ok rfl hframe hsample ?_,
    fun hsome => ⟨s.purge i, exec_of_ok rfl hframe hsample ?_, ?_, State.purge_waitingCount, ?_, State.purge_poolInUse⟩⟩
  · simp only [indexArg_of_eq hb, hl, hnone]
    rfl
  · simp only [indexArg_of_eq hb, hl, List.isEmpty_eq_false_iff.mpr hsome]
    rfl
  · rw [State.purge, hl, funext (PendingEntry.purged_eq i)]
    rfl
  · rw [← hl, State.purge_owedCount]

end Sys2Proof
end

section
/-! Counting, sampling and capturing (R124, R127 to R132, R141 to R144, R150 to R153): what one counter, one bin and one
capture attempt do, and what that makes of the accounting unit. -/

namespace Sys2Proof.Machine

/-! ### One counter (R127 to R130) -/

variable {c : Counter} {q : Nat}

theorem CounterConfig.passes_iff {c : CounterConfig} :
    c.passes q = true ↔ (c.test = .atLeast ∧ c.threshold ≤ q) ∨ (c.test = .below ∧ q < c.threshold) := by
  cases h : c.test <;> simp [CounterConfig.passes, h]

theorem CounterConfig.admits_iff {c : CounterConfig} {i : Option StreamIx} :
    c.admits i = true ↔ c.filter = none ∨ c.filter = i := by
  simp [CounterConfig.admits]

theorem CounterConfig.amount_eq (c : CounterConfig) (q : Nat) :
    c.amount q = if c.accumulate = .count then 1 else q := by
  cases h : c.accumulate <;> simp [CounterConfig.amount, h]

theorem Counter.takeNotice_of_taken {n : Notice} (henable : c.config.enable = true) (hevent : c.config.event = n.event)
    (hadmits : c.config.admits n.stream = true) (hpasses : c.config.passes n.quantity = true) :
    c.takeNotice n = c.add n.quantity :=
  if_pos (by simp [henable, hevent, hadmits, hpasses])

theorem Counter.takeNotice_of_not {n : Notice}
    (h : ¬ (c.config.enable = true ∧ c.config.event = n.event ∧ c.config.admits n.stream = true ∧
      c.config.passes n.quantity = true)) : c.takeNotice n = (c, false) :=
  if_neg (by simpa [and_assoc] using h)

/-- Without edge a sample is added exactly when the test passes (R129). -/
theorem Counter.takeSample_of_level (hedge : c.config.edge = false) :
    c.takeSample q = if c.config.passes q then c.add q else (c, false) := by
  cases hpass : c.config.passes q <;> simp [Counter.takeSample, hedge, hpass]

/-- Under edge a sample is added exactly when the test passes now and did not before, and is remembered (R129). -/
theorem Counter.takeSample_of_edge (hedge : c.config.edge = true) :
    c.takeSample q =
      let added := if c.config.passes q && !c.edgeMemory then c.add q else (c, false)
      ({ added.1 with edgeMemory := c.config.passes q }, added.2) := by
  simp [Counter.takeSample, hedge]

theorem Counter.takeReport_of_disabled {r : WindowReport} (h : c.config.enable = false) : c.takeReport r = (c, false) := by
  simp [Counter.takeReport, h]

theorem Counter.takeReport_of_window {r : WindowReport} (h : c.config.enable = true) (hevent : c.config.event = .window) :
    c.takeReport r = c.takeNotice { event := .window, stream := none, quantity := 0 } := by
  simp [Counter.takeReport, h, hevent]

theorem Counter.takeReport_of_sample {r : WindowReport} (h : c.config.enable = true) (hevent : c.config.event ≠ .window)
    (hsample : r.sampleFor c.config = some q) : c.takeReport r = c.takeSample q := by
  simp [Counter.takeReport, h, hevent, hsample]

theorem Counter.takeReport_of_noSample {r : WindowReport} (h : c.config.enable = true) (hevent : c.config.event ≠ .window)
    (hsample : r.sampleFor c.config = none) : c.takeReport r = (c, false) := by
  simp [Counter.takeReport, h, hevent, hsample]

/-- The sample of a level is the level of the filter's index, or the total (TABLE 63). -/
theorem Counter.takeReport_of_level {r : WindowReport} {levels : Vector Nat 16} {total : Nat}
    (h : c.config.enable = true) (hevent : c.config.event ≠ .window)
    (hlevel : r.sampleFor c.config = some (levelFor c.config.filter levels total)) :
    (c.config.filter = none → c.takeReport r = c.takeSample total) ∧
      ∀ i, c.config.filter = some i → c.takeReport r = c.takeSample levels[i] := by
  rw [Counter.takeReport_of_sample h hevent hlevel]
  exact ⟨fun hany => by rw [hany]; rfl, fun i hi => by rw [hi]; rfl⟩

theorem toNat_max_zero (b : Int) : (max b 0).toNat = if 0 ≤ b then b.toNat else 0 := by
  split <;> omega

end Sys2Proof.Machine

namespace Sys2Proof

open Machine

/-- Settles O52: a counter's test, match, add and edge memory, and the sample of each level of a report. -/
theorem counterTakesNoticesAndSamples : Obligations.CounterTakesNoticesAndSamples := by
  unfold Obligations.CounterTakesNoticesAndSamples
  intro c passes sum added
  have hpasses (q : Nat) : c.config.passes q = true ↔ passes q := CounterConfig.passes_iff
  have hadd (q : Nat) : c.add q = (added q, decide (2 ^ 40 ≤ sum q)) := by
    unfold Counter.add
    rw [CounterConfig.amount_eq]
  refine ⟨fun n => ⟨fun ⟨⟨henable, hevent, hfilter⟩, hpass⟩ => ?_, fun hnot => ?_⟩,
    fun q => ⟨fun hedge => ?_, fun hedge => ?_⟩, fun r => ⟨Counter.takeReport_of_disabled, fun henable =>
      ⟨fun hevent => ?_, fun hevent => ?_, fun hevent => ?_, fun hevent => ?_, fun i hevent hi => ?_, fun hevent => ?_⟩⟩⟩
  · rw [Counter.takeNotice_of_taken henable hevent (CounterConfig.admits_iff.mpr hfilter) ((hpasses _).mpr hpass), hadd]
  · refine Counter.takeNotice_of_not fun ⟨henable, hevent, hadmits, hpass⟩ => ?_
    exact hnot ⟨⟨henable, hevent, CounterConfig.admits_iff.mp hadmits⟩, (hpasses _).mp hpass⟩
  · rw [Counter.takeSample_of_level hedge, ← hadd]
    exact ⟨fun hpass => if_pos ((hpasses q).mpr hpass), fun hfail => if_neg fun h => hfail ((hpasses q).mp h)⟩
  · rw [Counter.takeSample_of_edge hedge]
    refine ⟨fun hpass hbefore => ?_, fun hpass hbefore => ?_, fun hfail => ?_⟩
    · simp [(hpasses q).mpr hpass, hbefore, hadd]
    · have hkept : ({ c with edgeMemory := true } : Counter) = c := by rw [← hbefore]
      simp [(hpasses q).mpr hpass, hbefore, hkept]
    · have : c.config.passes q = false := Bool.eq_false_iff.mpr fun h => hfail ((hpasses q).mp h)
      simp [this]
  · rw [Counter.takeReport_of_window henable hevent]
    exact ⟨rfl, fun hfilter => Counter.takeNotice_of_not fun ⟨_, _, hadmits, _⟩ =>
      (CounterConfig.admits_iff.mp hadmits).elim hfilter hfilter⟩
  · exact Counter.takeReport_of_level henable (by simp [hevent]) (by simp [WindowReport.sampleFor, hevent])
  · exact Counter.takeReport_of_level henable (by simp [hevent]) (by simp [WindowReport.sampleFor, hevent])
  · exact Counter.takeReport_of_level henable (by simp [hevent]) (by simp [WindowReport.sampleFor, hevent])
  · refine Counter.takeReport_of_sample henable (by simp [hevent]) ?_
    simp only [WindowReport.sampleFor, hevent, hi, Option.map_some, toNat_max_zero]
  · refine Counter.takeReport_of_noSample henable (fun h => hevent (by simp [h])) ?_
    cases h : c.config.event <;> simp_all [WindowReport.sampleFor]

end Sys2Proof

namespace Sys2Proof.Machine

variable {s : State} {f : Counter → Counter × Bool}

/-! ### One counting event (R131, R132) -/

/-- The counter that freezes accounting is the lowest that wraps with freeze-on-overflow. -/
theorem State.freezer_eq_some_iff {i : CounterIx} :
    s.freezer f = some i ↔
      ((f s.accounting.counters[i]).2 && (f s.accounting.counters[i]).1.config.freezeOnOverflow) = true ∧
        ∀ j, j < i →
          ¬ ((f s.accounting.counters[j]).2 && (f s.accounting.counters[j]).1.config.freezeOnOverflow) = true := by
  unfold State.freezer
  simp only [mapAll_fin]
  rw [← Fin.find?_eq_find?_finRange, Fin.find?_eq_some_iff]
  simp

theorem State.freezer_eq_none_iff :
    s.freezer f = none ↔
      ∀ i : CounterIx,
        ¬ ((f s.accounting.counters[i]).2 && (f s.accounting.counters[i]).1.config.freezeOnOverflow) = true := by
  unfold State.freezer
  simp

theorem State.countEvent_of_settled (h : s.accounting.sampleDue = none) : s.countEvent f = s.count f := by
  rw [State.countEvent, s.settleSample_none h]

/-- A counting event reconfigures no counter. -/
theorem Counter.config_of_countingEvent (h : (∃ n, f = Counter.takeNotice n) ∨ ∃ r, f = Counter.takeReport r)
    (c : Counter) : (f c).1.config = c.config := by
  obtain ⟨n, rfl⟩ | ⟨r, rfl⟩ := h
  · exact Counter.takeNotice_config n c
  · exact Counter.takeReport_config r c

end Sys2Proof.Machine

namespace Sys2Proof

open Machine

/-- Settles O53: a counting event by the accounting state and by the lowest counter that wraps with freeze-on-overflow. -/
theorem wrapFreezesAccounting : Obligations.WrapFreezesAccounting := by
  unfold Obligations.WrapFreezesAccounting
  refine ⟨fun s f hf hsettled => ?_, fun s n => rfl, fun s => ⟨fun f => s.countEvent_settleSample f,
    fun h => s.settleSample_none h, fun r h => s.settleSample_some h⟩⟩
  intro results wraps u
  have hwraps (i : CounterIx) :
      ((f s.accounting.counters[i]).2 && (f s.accounting.counters[i]).1.config.freezeOnOverflow) = true ↔ wraps i := by
    show _ ↔ (mapAll f s.accounting.counters)[i].2 = true ∧ _
    rw [mapAll_fin, Bool.and_eq_true, Counter.config_of_countingEvent hf]
  rw [State.countEvent_of_settled hsettled]
  refine ⟨fun c hfrozen => State.count_of_frozen hfrozen, fun hcounting => ⟨fun hnone => ?_, fun i hi hlowest => ?_⟩⟩
  · have hfreezer : s.freezer f = none := State.freezer_eq_none_iff.mpr fun i h => hnone i ((hwraps i).mp h)
    exact State.count_of_noFreezer hcounting hfreezer
  · have hfreezer : s.freezer f = some i :=
      State.freezer_eq_some_iff.mpr ⟨(hwraps i).mpr hi, fun j hj h => hlowest j hj ((hwraps j).mp h)⟩
    intro v
    rw [State.count_of_freezer hcounting hfreezer]
    exact ⟨fun h => State.freezeBy_of_noCapture (s := s.counted f) h,
      fun h => State.freezeBy_of_capture (s := s.counted f) h⟩

end Sys2Proof
end

section
/-! Samples at the histogram (R141 to R144) and capture attempts (R150 to R153). -/

namespace Sys2Proof

/-- Of a test that holds of an initial run of the indices, the number that pass it is the end of the run. -/
theorem lt_countP_finRange_iff {n : Nat} {p : Fin n → Bool} (hp : ∀ i j, i < j → p j = true → p i = true)
    (i : Fin n) : i.val < (List.finRange n).countP p ↔ p i = true := by
  have hcard : (List.finRange n).countP p = (Finset.univ.filter fun j => p j = true).card := by
    rw [List.countP_eq_length_filter]
    simp [Finset.filter, Finset.univ, Fintype.elems]
  rw [hcard]
  constructor
  · intro hlt
    by_contra hfail
    have hsub : (Finset.univ.filter fun j => p j = true) ⊆ Finset.Iio i := fun j hj => by
      rw [Finset.mem_filter] at hj
      rw [Finset.mem_Iio]
      by_contra hle
      obtain hij | hij := lt_or_eq_of_le (not_lt.mp hle)
      · exact hfail (hp i j hij hj.2)
      · exact hfail (hij ▸ hj.2)
    have hle := Finset.card_le_card hsub
    rw [Fin.card_Iio] at hle
    omega
  · intro hi
    have hsub : Finset.Iic i ⊆ Finset.univ.filter fun j => p j = true := fun j hj => by
      rw [Finset.mem_Iic] at hj
      refine Finset.mem_filter.mpr ⟨Finset.mem_univ j, ?_⟩
      obtain hji | rfl := lt_or_eq_of_le hj
      · exact hp j i hji hi
      · exact hi
    have hle := Finset.card_le_card hsub
    rw [Fin.card_Iic] at hle
    omega

end Sys2Proof

namespace Sys2Proof.Machine

variable {s : State}

/-! ### The bin of a latency (R143) -/

/-- Between ascending boundaries the bin of a latency lies above exactly those that the latency reaches. -/
theorem le_iff_lt_binOf {b : Vector Nat 7} (h : ascending b = true) (latency : Time) (i : Fin 7) :
    b[i] ≤ latency.toNat ↔ i.val < (binOf b latency).val := by
  have hcount : (binOf b latency).val = (List.finRange 7).countP fun j : Fin 7 => decide (b[j] ≤ latency.toNat) := by
    have hle : (List.finRange 7).countP (fun j : Fin 7 => decide (b[j] ≤ latency.toNat)) ≤ 7 :=
      List.countP_le_length.trans_eq (List.length_finRange)
    have hlist := countWhere_eq_countP_finRange (fun x : Nat => decide (x ≤ latency.toNat)) b
    unfold countWhere at hlist
    unfold binOf
    rw [hlist, Fin.val_ofNat, Nat.mod_eq_of_lt (Nat.lt_succ_of_le hle)]
  have hinitial (i j : Fin 7) (hij : i < j) (hj : decide (b[j] ≤ latency.toNat) = true) :
      decide (b[i] ≤ latency.toNat) = true :=
    decide_eq_true (((ascending_iff.mp h).2 i j hij).le.trans (of_decide_eq_true hj))
  rw [hcount, lt_countP_finRange_iff hinitial, decide_eq_true_iff]

theorem Bin.take_of_room {b : Bin} (h : b.count.toNat < 2 ^ 32 - 1) :
    b.take = { count := b.count + 1, saturated := b.saturated } :=
  if_neg fun hfull => by rw [hfull] at h; exact absurd h (by decide)

theorem Bin.take_of_full {b : Bin} (h : b.count.toNat = 2 ^ 32 - 1) :
    b.take = { count := b.count, saturated := true } :=
  if_pos (BitVec.eq_of_toNat_eq (h.trans (by decide)))

/-! ### A sample at the histogram (R141, R144) -/

theorem HistogramConfig.samples_iff {c : HistogramConfig} {r : SampleRecord} :
    c.samples r = true ↔ (c.filter = none ∨ c.filter = some r.req.stream) ∧ (r.ok = true ∨ c.includeMemerr = true) := by
  simp [HistogramConfig.samples]

theorem State.sample_of_sampled {r : SampleRecord} (hcounting : s.accounting.state = .counting)
    (hsamples : s.accounting.histogram.config.samples r = true) :
    s.sample r = { s with accounting := { s.accounting with histogram := s.accounting.histogram.take r } } := by
  unfold State.sample AccountingUnit.sample
  rw [if_pos (by simp [hcounting, hsamples])]

theorem State.sample_of_not {r : SampleRecord}
    (h : ¬ (s.accounting.state = .counting ∧ s.accounting.histogram.config.samples r = true)) : s.sample r = s := by
  unfold State.sample AccountingUnit.sample
  rw [if_neg (by simpa using h)]

variable {h : Histogram} {r : SampleRecord}

theorem Histogram.take_bins (h : Histogram) (r : SampleRecord) (j : Fin 8) :
    (h.take r).bins[j] =
      if binOf h.config.boundaries (r.latency h.config.latencyKind) = j then h.bins[j].take else h.bins[j] := by
  unfold Histogram.take
  rw [setAt_fin]
  split
  · next heq => subst heq; rfl
  · rfl

theorem Histogram.take_worst_of_le {w : WorstRecord} (hw : h.worst = some w)
    (hle : (r.latency h.config.latencyKind).toNat ≤ w.latency.toNat) : (h.take r).worst = h.worst := by
  have hnot : ¬ w.latency < r.latency h.config.latencyKind := fun hlt => Nat.not_lt.mpr hle (BitVec.lt_def.mp hlt)
  unfold Histogram.take
  simp only [hw, decide_eq_true_eq, if_neg hnot]

theorem Histogram.take_worst_of_greater
    (hgreater : ∀ w, h.worst = some w → w.latency.toNat < (r.latency h.config.latencyKind).toNat) :
    (h.take r).worst = some (r.worst h.config) := by
  unfold Histogram.take
  cases hw : h.worst with
  | none => rfl
  | some w => simp only [decide_eq_true_eq, if_pos (BitVec.lt_def.mpr (hgreater w hw))]

/-! ### A capture attempt (R150 to R153) -/

section Attempt

variable {k : CaptureCause} {n : Option (BitVec 32)} {b : Vector Int 16}

theorem State.captureAttempt_of_full (h : Config.captureCapacity ≤ s.capture.records.length) :
    s.captureAttempt k n b =
      { s with
        capture := { s.capture with number := s.capture.number + 1, missed := min 255 (s.capture.missed + 1) } } := by
  unfold State.captureAttempt
  rw [if_pos h]
  rfl

theorem State.captureAttempt_of_room (h : s.capture.records.length < Config.captureCapacity) :
    s.captureAttempt k n b =
      { s with
        accounting := s.accounting.clearedBy s.capture.options
        capture := { s.capture with
          number := s.capture.number + 1, missed := 0, records := s.capture.records ++ [s.captureRecord k n b] } } := by
  unfold State.captureAttempt
  rw [if_neg (Nat.not_le.mpr h)]
  rfl

/-- A capture attempt leaves the period and the periodic count as they are (R153). -/
theorem State.captureAttempt_period (k : CaptureCause) (n : Option (BitVec 32)) (b : Vector Int 16) :
    (s.captureAttempt k n b).capture.period = s.capture.period ∧
      (s.captureAttempt k n b).capture.periodicCount = s.capture.periodicCount := by
  obtain h | h := Nat.lt_or_ge s.capture.records.length Config.captureCapacity
  · rw [State.captureAttempt_of_room h]; exact ⟨rfl, rfl⟩
  · rw [State.captureAttempt_of_full h]; exact ⟨rfl, rfl⟩

theorem AccountingUnit.clearedBy_counters_fin (o : CaptureOptions) (u : AccountingUnit) (i : CounterIx) :
    (u.clearedBy o).counters[i] =
      if o.clearCounters then { u.counters[i] with value := 0, overflow := false, edgeMemory := false }
      else u.counters[i] := by
  unfold AccountingUnit.clearedBy
  split
  · rw [mapAll_fin]; rfl
  · rfl

theorem AccountingUnit.clearedBy_histogram (o : CaptureOptions) (u : AccountingUnit) :
    (u.clearedBy o).histogram =
      if o.clearHistogram then
        { config := u.histogram.config, bins := Vector.replicate 8 { count := 0, saturated := false }, worst := none }
      else u.histogram := by
  unfold AccountingUnit.clearedBy
  split
  · have hbins : clearBins = Vector.replicate 8 { count := 0, saturated := false } := by decide
    unfold Histogram.cleared
    rw [hbins]
  · rfl

end Attempt

/-- A counting event leaves the period and the periodic count as they are, whatever it captures. -/
theorem State.countEvent_period (f : Counter → Counter × Bool) :
    (s.countEvent f).capture.period = s.capture.period ∧
      (s.countEvent f).capture.periodicCount = s.capture.periodicCount := by
  have key (t : State) : (t.count f).capture.period = t.capture.period ∧
      (t.count f).capture.periodicCount = t.capture.periodicCount := by
    cases hstate : t.accounting.state with
    | frozen c => rw [State.count_of_frozen hstate]; exact ⟨rfl, rfl⟩
    | counting =>
      cases hfreezer : t.freezer f with
      | none => rw [State.count_of_noFreezer hstate hfreezer]; exact ⟨rfl, rfl⟩
      | some i =>
        rw [State.count_of_freezer hstate hfreezer]
        obtain hcapture | hcapture := Bool.eq_false_or_eq_true t.capture.options.captureOnFreeze
        · rw [State.freezeBy_of_capture (s := t.counted f) hcapture]
          exact State.captureAttempt_period (s := (t.counted f).frozenBy i) _ _ _
        · rw [State.freezeBy_of_noCapture (s := t.counted f) hcapture]
          exact ⟨rfl, rfl⟩
  exact key s.settleSample

end Sys2Proof.Machine

namespace Sys2Proof

open Machine

/-- Settles O54: the histogram's take, by the filter and the status, in its bin and against the worst case. -/
theorem histogramTakesSamples : Obligations.HistogramTakesSamples := by
  unfold Obligations.HistogramTakesSamples
  intro s r h sampled latency
  have hlatency : latency = r.latency h.config.latencyKind := by
    cases hk : h.config.latencyKind <;> simp only [latency, hk] <;> rfl
  refine ⟨fun hnot => ?_, fun ⟨hcounting, hfilter, hstatus⟩ hascending => ?_⟩
  · refine State.sample_of_not fun ⟨hcounting, hsamples⟩ => hnot ⟨hcounting, ?_⟩
    exact HistogramConfig.samples_iff.mp hsamples
  · rw [hlatency]
    refine ⟨binOf h.config.boundaries (r.latency h.config.latencyKind), h.take r, ?_, rfl,
      le_iff_lt_binOf hascending _, fun j hj => ?_, fun hroom => ?_, fun hfull => ?_, fun ⟨w, hw, hle⟩ => ?_,
      fun hgreater => ?_⟩
    · exact State.sample_of_sampled hcounting (HistogramConfig.samples_iff.mpr ⟨hfilter, hstatus⟩)
    · rw [Histogram.take_bins, if_neg hj.symm]
    · rw [Histogram.take_bins, if_pos rfl, Bin.take_of_room hroom]
    · rw [Histogram.take_bins, if_pos rfl, Bin.take_of_full hfull]
    · exact Histogram.take_worst_of_le hw hle
    · exact Histogram.take_worst_of_greater hgreater

/-- Settles O55: an attempt at a full queue and at one with room, and the periodic attempt of every K reports. -/
theorem captureAttemptStoresOrDrops : Obligations.CaptureAttemptStoresOrDrops := by
  unfold Obligations.CaptureAttemptStoresOrDrops
  refine ⟨fun s k n b => ⟨fun hfull => ?_, fun hroom => ?_⟩, fun s r => ?_⟩
  · have hmissed : min 255 (s.capture.missed + 1) = if s.capture.missed < 255 then s.capture.missed + 1 else 255 := by
      split <;> omega
    rw [State.captureAttempt_of_full hfull, hmissed]
  · rw [State.captureAttempt_of_room hroom]
    refine ⟨_, s.captureRecord k n b, rfl, rfl,
      ⟨rfl, rfl, rfl, rfl, rfl, rfl, rfl, rfl, rfl, rfl, fun i => ?_, rfl, rfl⟩, rfl, fun i => ?_, ?_⟩
    · unfold State.captureRecord
      rw [mapAll_fin, mapAll_fin]
      exact ⟨rfl, rfl⟩
    · exact AccountingUnit.clearedBy_counters_fin _ _ i
    · exact AccountingUnit.clearedBy_histogram _ _
  · intro u
    obtain ⟨hperiod, hcount⟩ := State.countEvent_period (s := s) (Counter.takeReport r)
    show (s.capture.period = 0 → u.periodicCapture r = u) ∧
      (_ → _ → u.periodicCapture r = _) ∧ (_ → u.periodicCapture r = _)
    rw [← hperiod, ← hcount]
    refine ⟨State.periodicCapture_of_off, State.periodicCapture_of_short, fun hreached => ?_⟩
    exact State.periodicCapture_of_reached (hreached ▸ Nat.succ_ne_zero _) hreached

end Sys2Proof
end

section
/-! The response data as fields (TABLES 87 and 88): each run of data bytes is the fields of its layout, one behind
another, least significant byte first, so that reading the fields gives the numbers back (R176, R177). -/

namespace Sys2Proof

theorem toList_eq_map_finRange {α : Type} {n : Nat} (v : Vector α n) :
    v.toList = (List.finRange n).map fun i => v[i] := by
  apply List.ext_getElem <;> simp

end Sys2Proof

namespace Sys2Proof.Machine

open Sys2Proof.Laws (leBytes_length)

/-! ### Fields laid one behind another -/

/-- The bytes of these fields, each least significant byte first. -/
def fieldBytes (fields : List (Nat × Nat)) : List Byte := fields.flatMap fun f => leBytes f.1 f.2

theorem fieldBytes_cons (n v : Nat) (fields : List (Nat × Nat)) :
    fieldBytes ((n, v) :: fields) = leBytes n v ++ fieldBytes fields := rfl

theorem fieldBytes_append (fields more : List (Nat × Nat)) :
    fieldBytes (fields ++ more) = fieldBytes fields ++ fieldBytes more := List.flatMap_append

/-- What is laid out reads back. -/
theorem readsAs_fieldBytes (fields : List (Nat × Nat)) : readsAs (fieldBytes fields) fields := by
  induction fields with
  | nil => rfl
  | cons f fields ih =>
    obtain ⟨n, v⟩ := f
    rw [fieldBytes_cons]
    refine ⟨by simp [leBytes_length], ?_, ?_⟩
    · rw [List.take_left' (leBytes_length ..), leNat_leBytes]
    · rwa [List.drop_left' (leBytes_length ..)]

theorem readsAs_of_eq {d : List Byte} {fields : List (Nat × Nat)} (h : d = fieldBytes fields) : readsAs d fields :=
  h ▸ readsAs_fieldBytes fields

/-- One field for each member of a fixed collection. -/
theorem fieldBytes_vector {α : Type} {n : Nat} (v : Vector α n) (k : Nat) (f : α → Nat) :
    fieldBytes ((List.finRange n).map fun i => (k, f v[i])) = v.toList.flatMap fun x => leBytes k (f x) := by
  rw [toList_eq_map_finRange, fieldBytes, List.flatMap_map, List.flatMap_map]

/-! ### Fields of one byte -/

theorem byte_toNat (b : Byte) : byte b.toNat = b := by
  rw [byte, BitVec.ofNat_toNat, BitVec.setWidth_eq]

theorem boolByte_eq (b : Bool) : boolByte b = byte (truth b) := by cases b <;> rfl

theorem replyStatusByte_eq (ok : Bool) : replyStatusByte ok = byte (truth !ok) := by cases ok <;> rfl

theorem toNat_eq_truth (b : Bool) : b.toNat = truth b := by cases b <;> rfl

/-- A flag byte is bit `i` for flag `i`. -/
theorem packByte_vector {α : Type} {n : Nat} (v : Vector α n) (f : α → Bool) :
    packByte (v.toList.map f) = byte (mask fun i => f v[i]) := by
  have key : ∀ {n : Nat} (g : Fin n → Bool),
      ((List.finRange n).map g).foldr (fun b acc => b.toNat + 2 * acc) 0 = mask g := by
    intro n
    induction n with
    | zero => exact fun _ => rfl
    | succ n ih =>
      intro g
      have hdouble : (List.map (fun i : Fin n => if g i.succ = true then 2 ^ (i.val + 1) else 0) (List.finRange n)).sum =
          2 * mask fun i => g i.succ := by
        rw [mask, ← List.sum_map_mul_left]
        exact congrArg List.sum (List.map_congr_left fun i _ => by split <;> ring)
      rw [mask, List.finRange_succ]
      simp only [List.map_cons, List.map_map, List.foldr_cons, List.sum_cons, Function.comp_def, Fin.val_succ]
      rw [hdouble, ← ih fun i => g i.succ, toNat_eq_truth]
      rfl
  rw [toList_eq_map_finRange, List.map_map, packByte, ← key]
  rfl

theorem packByte_bools {n : Nat} (v : Vector Bool n) : packByte v.toList = byte (mask fun i => v[i]) := by
  have h := packByte_vector v id
  rwa [List.map_id] at h

theorem packByte_two (a b : Bool) : packByte [a, b] = byte (truth a + 2 * truth b) := by
  cases a <;> cases b <;> rfl

theorem packByte_three (a b c : Bool) : packByte [a, b, c] = byte (truth a + 2 * truth b + 4 * truth c) := by
  cases a <;> cases b <;> cases c <;> rfl

theorem packByte_five (a b c d e : Bool) :
    packByte [a, b, c, d, e] = byte (truth a + 2 * truth b + 4 * truth c + 8 * truth d + 16 * truth e) := by
  simp only [packByte, byte, List.foldr_cons, List.foldr_nil, toNat_eq_truth]
  ring_nf

theorem pendingByte_eq (s : State) : s.pendingByte = byte (causeSet s.causePending) := by
  simp only [State.pendingByte, Cause.all, causeSet, packByte, byte, List.map_cons, List.map_nil, List.foldr_cons,
    List.foldr_nil, toNat_eq_truth]
  ring_nf

theorem filterByte_eq (f : Option StreamIx) : filterByte f = byte (filterCode f) := by cases f <;> rfl

theorem eventByte_eq (e : Event) : eventByte e = byte (eventCode e) := by cases e <;> rfl

theorem balanceBytes_eq (b : Int) : balanceBytes b = leBytes 4 (signed b) := by
  rw [balanceBytes, BitVec.toNat_ofInt]
  rfl

theorem accountingBytes_eq (a : AccountingState) :
    [accountingByte a, freezeCauseByte a] = fieldBytes (accountingFields a) := by
  match a with
  | .counting => rfl
  | .frozen .command => rfl
  | .frozen (.counter i) => rfl

theorem counterFlagsByte_eq (c : CounterConfig) :
    counterFlagsByte c =
      byte (truth c.enable + (match c.test with | .atLeast => 0 | .below => 2) +
        (match c.accumulate with | .count => 0 | .sum => 4) + 8 * truth c.edge + 16 * truth c.freezeOnOverflow) := by
  have htest : 2 * truth (c.test == .below) = match c.test with | .atLeast => 0 | .below => 2 := by
    cases c.test <;> rfl
  have haccumulate : 4 * truth (c.accumulate == .sum) = match c.accumulate with | .count => 0 | .sum => 4 := by
    cases c.accumulate <;> rfl
  rw [counterFlagsByte, packByte_five, htest, haccumulate]

/-! ### Counts of entries, beats and slots -/

section Counts

variable (s : State) (i : StreamIx)

theorem entryCount_eq_countP {waiting : Bool} {stream : Option StreamIx} {p : PendingEntry → Bool}
    (hp : ∀ e, p e = true ↔ (e.isWaiting = true ↔ waiting = true) ∧ (stream = none ∨ stream = some e.stream)) :
    entryCount s waiting stream = s.entries.countP p := by
  rw [entryCount, ← List.countP_eq_length_filter]
  refine List.countP_congr fun e _ => ?_
  rw [hp, decide_eq_true_iff, PendingEntry.isWaiting, beq_iff_eq]

theorem entryCount_waiting : entryCount s true none = s.waitingTotal := entryCount_eq_countP s (by simp)

theorem entryCount_owed : entryCount s false none = s.owedTotal := entryCount_eq_countP s (by simp)

theorem entryCount_waiting_of : entryCount s true (some i) = s.waitingCount i :=
  entryCount_eq_countP s fun e => by simp [eq_comm (a := i)]

theorem entryCount_owed_of : entryCount s false (some i) = s.owedCount i :=
  entryCount_eq_countP s fun e => by simp [eq_comm (a := i)]

theorem beatCount_all : beatCount s none = s.poolInUse := by
  unfold beatCount State.poolInUse
  induction s.entries with
  | nil => rfl
  | cons e l ih =>
    by_cases hholds : e.state = .waiting ∧ e.kind = .write
    · have hbeats : e.poolBeats = e.beats.toNat := if_pos (by simpa [PendingEntry.isWaiting] using hholds)
      rw [List.filter_cons_of_pos (by simpa using hholds), List.map_cons, List.sum_cons, ih, List.map_cons,
        List.sum_cons, hbeats]
    · have hbeats : e.poolBeats = 0 := if_neg (by simpa [PendingEntry.isWaiting] using hholds)
      rw [List.filter_cons_of_neg (by simpa using hholds), ih, List.map_cons, List.sum_cons, hbeats, Nat.zero_add]

theorem beatCount_of : beatCount s (some i) = s.poolHeld i := by
  rw [State.poolHeld_eq, beatCount]
  simp [eq_comm]

theorem slotsFree_eq :
    s.slotsFree = ((List.finRange 64).filter fun j : SlotIx => decide (s.slots[j].use = .free)).length := by
  rw [State.slotsFree, countWhere_eq_countP_finRange, List.countP_eq_length_filter]
  rfl

theorem slotCount_eq_countWhere {stage : SlotStage} {stream : Option StreamIx} {p : Slot → Bool}
    (hp : ∀ t, p t = true ↔ ∃ q, t.use = .busy stage q ∧ (stream = none ∨ stream = some q.stream)) :
    slotCount s stage stream = countWhere p s.slots := by
  rw [slotCount, countWhere_eq_countP_finRange, ← List.countP_eq_length_filter]
  refine List.countP_congr fun j _ => ?_
  rw [hp]
  cases s.slots[j].use <;> simp [and_assoc]

theorem slotCount_all (g : SlotStage) : slotCount s g none = s.slotsIn g :=
  slotCount_eq_countWhere s fun t => by simp [Slot.inStage_iff]

theorem slotCount_of (g : SlotStage) : slotCount s g (some i) = s.slotsOf g i :=
  slotCount_eq_countWhere s fun t => by
    cases h : t.use <;> simp [Slot.inStage, Slot.carries, h, eq_comm (a := i)]

end Counts

/-! ### Each response as its fields (TABLE 88) -/

theorem statusData_eq (s : State) : statusData s = fieldBytes (statusLayout s) := by
  unfold statusData statusLayout
  rw [fieldBytes_append, fieldBytes_append, ← accountingBytes_eq, entryCount_waiting, entryCount_owed, beatCount_all,
    ← slotsFree_eq, slotCount_all, slotCount_all, slotCount_all, boolByte_eq, boolByte_eq, pendingByte_eq]
  cases s.port <;> rfl

theorem regulationData_eq (r : Regulation) : regulationData r = fieldBytes (regulationLayout r) := by
  unfold regulationData regulationLayout
  rw [boolByte_eq]
  cases r.phaseBinding <;> rfl

theorem streamData_eq (s : State) (i : StreamIx) : streamData s i = fieldBytes (streamLayout s i) := by
  unfold streamData streamLayout
  dsimp only
  simp only [fieldBytes_append, ← regulationData_eq, entryCount_waiting_of, entryCount_owed_of, beatCount_of,
    slotCount_of, boolByte_eq, kindsByte, packByte_two, balanceBytes_eq]
  cases s.streams[i].policy <;> cases s.gate i <;> rfl

theorem channelsData_eq (w : WindowSettings) : channelsData w.channels = fieldBytes (channelsLayout w) := by
  unfold channelsData channelsLayout
  rw [toList_eq_map_finRange, fieldBytes, List.flatMap_map, List.flatMap_assoc]
  simp

theorem windowData_eq (w : WindowGen) : windowData w = fieldBytes (windowLayout w) := by
  unfold windowData windowLayout
  rw [fieldBytes_append, fieldBytes_append, fieldBytes_append, ← channelsData_eq, ← channelsData_eq, packByte_bools,
    boolByte_eq]
  rfl

theorem counterData_eq (u : AccountingUnit) (i : CounterIx) : counterData u i = fieldBytes (counterLayout u i) := by
  unfold counterData counterLayout
  dsimp only
  rw [fieldBytes_append, ← accountingBytes_eq, eventByte_eq, filterByte_eq, counterFlagsByte_eq, boolByte_eq, boolByte_eq]
  rfl

theorem valuesData_eq (f : CounterIx → BitVec 40) :
    valuesData ((List.finRange 8).map f) = fieldBytes ((List.finRange 8).map fun i => (5, (f i).toNat)) := by
  rw [valuesData, fieldBytes, List.flatMap_map, List.flatMap_map]

theorem countersData_eq (u : AccountingUnit) : countersData u = fieldBytes (countersLayout u) := by
  unfold countersData countersLayout overflowByte
  rw [fieldBytes_append, fieldBytes_append, ← accountingBytes_eq, packByte_vector, toList_eq_map_finRange, List.map_map]
  rfl

theorem binsData_eq (b : Vector Bin 8) : binsData b = fieldBytes (binsLayout b) := by
  unfold binsData binsLayout
  rw [fieldBytes_append, fieldBytes_vector b 4 fun x => x.count.toNat, packByte_vector]
  rfl

theorem histogramConfigData_eq (c : HistogramConfig) : histogramConfigData c = fieldBytes (histogramLayout c) := by
  unfold histogramConfigData histogramLayout
  rw [fieldBytes_append, fieldBytes_vector c.boundaries 3 fun b => b, filterByte_eq, packByte_two]
  cases c.latencyKind <;> rfl

theorem worstData_eq (w : Option WorstRecord) : worstData w = fieldBytes (worstLayout w) := by
  cases w with
  | none => rfl
  | some r =>
    rw [worstData, replyStatusByte_eq, packByte_two, ← byte_toNat r.northTag]
    unfold worstLayout
    dsimp only
    cases r.kind <;> cases r.windowSequence <;> cases r.address <;> rfl

theorem headerData_eq (r : CaptureRecord) : headerData r = fieldBytes (captureLayout r 0) := by
  unfold headerData captureLayout
  dsimp only
  rw [fieldBytes_append, fieldBytes_append, ← accountingBytes_eq, packByte_three, packByte_bools]
  cases r.cause <;> cases r.windowSequence <;> rfl

theorem captureData_eq (r : CaptureRecord) (p : Fin 4) : captureData r p = fieldBytes (captureLayout r p) := by
  match p with
  | 0 => exact headerData_eq r
  | 1 =>
    show valuesData r.values.toList = _
    rw [toList_eq_map_finRange]
    exact valuesData_eq _
  | 2 =>
    unfold captureData captureLayout
    cases r.histogram with
    | none => rfl
    | some b => exact binsData_eq b
  | 3 =>
    unfold captureData captureLayout
    cases r.balances with
    | none => rfl
    | some b =>
      show b.toList.flatMap balanceBytes = _
      rw [fieldBytes_vector b 4 signed, funext balanceBytes_eq]

/-- The fields of a request that fill one byte each. -/
theorem requestBytes_eq (q : SlotRequest) :
    [byte q.stream.val, byte q.source.toNat, q.northTag, byte q.kind.code, byte q.beats.toNat] =
      fieldBytes [(1, q.stream.val), (1, q.source.toNat), (1, q.northTag.toNat), (1, q.kind.code), (1, q.beats.toNat)] :=
  congrArg (fun b => [byte q.stream.val, byte q.source.toNat, b, byte q.kind.code, byte q.beats.toNat])
    (byte_toNat q.northTag).symm

/-- SLOT READ shows the candidate only at its own slot. -/
theorem slotData_eq (s : State) (i : SlotIx) : slotData s i = fieldBytes (slotLayout s i) := by
  have hheld : s.candidate = none ∨ (∃ c, s.candidate = some c ∧ c.slot = i) ∨ ∃ c, s.candidate = some c ∧ c.slot ≠ i := by
    cases s.candidate with
    | none => exact .inl rfl
    | some c => exact .inr ((em (c.slot = i)).imp (⟨c, rfl, ·⟩) (⟨c, rfl, ·⟩))
  unfold slotData slotLayout
  generalize s.slots[i] = t
  obtain ⟨generation, use⟩ := t
  obtain hc | ⟨c, hc, hslot⟩ | ⟨c, hc, hslot⟩ := hheld
  all_goals
    simp only [*, Option.filter_none, Option.filter_some, beq_iff_eq, if_true, if_false, Option.map_none, Option.map_some,
      replyStatusByte_eq, packByte_three]
    cases use with
    | free => rfl
    | busy g q =>
      dsimp only
      rw [requestBytes_eq]
      cases g <;> cases q.kind <;> cases q.deadline <;> rfl

end Sys2Proof.Machine
end

section
/-! The reading commands (R31, R46, R106, R137, R146, R156, R161, R171): each answers the data of its layout and leaves
the rest of the part as it is. -/

namespace Sys2Proof.Machine

variable {s : State} {c : Instr} {code : Byte} {owner : State → Reply}

/-- A command whose owner answers these fields shows them and leaves the part as it is. -/
theorem exec_read_of_ok (hexec : exec c s = .next (s.runCommand code owner)) (hframe : s.inFrame = true)
    (hsample : s.accounting.sampleDue = none) {d : List Byte} {n : Nat} {layout : List (Nat × Nat)}
    (howner : owner s = .ok s d) (hlength : d.length = n) (hfields : d = fieldBytes layout) :
    ∃ d, exec c s = .next (s.answered code .ok d) ∧ d.length = n ∧ readsAs d layout :=
  ⟨d, exec_of_ok hexec hframe hsample howner, hlength, readsAs_of_eq hfields⟩

theorem alertData_eq (s : State) :
    [s.pendingByte, s.alert.enabled] = fieldBytes [(1, causeSet s.causePending), (1, s.alert.enabled.toNat)] := by
  rw [pendingByte_eq]
  exact congrArg (fun b => [byte (causeSet s.causePending), b]) (byte_toNat _).symm

theorem accountedBinsData_eq (a : AccountingState) (b : Vector Bin 8) :
    [accountingByte a, freezeCauseByte a] ++ binsData b = fieldBytes (accountingFields a ++ binsLayout b) := by
  rw [fieldBytes_append, accountingBytes_eq, binsData_eq]

end Sys2Proof.Machine

namespace Sys2Proof

open Machine

/-- Settles O37: each reading command's data is the fields of its layout, and the rest is turned away. -/
theorem readCommandsOnlyAnswer : Obligations.ReadCommandsOnlyAnswer := by
  unfold Obligations.ReadCommandsOnlyAnswer
  intro s hframe hsample answers turnsAway
  refine ⟨?_, ?_, ?_, fun b i hb => ?_, fun b hb => ?_, fun b i hb => ?_, fun b hb => ?_, fun b i hb => ?_, ?_,
    fun b hb hall => ?_, ?_, ?_, ?_, fun b hb => ?_, fun b p r hb hr => ?_, fun b hb hempty => ?_, fun b hb => ?_⟩
  · exact exec_read_of_ok rfl hframe hsample rfl (statusData_length s) (statusData_eq s)
  · exact exec_read_of_ok rfl hframe hsample rfl (windowData_length _) (windowData_eq _)
  · exact exec_read_of_ok rfl hframe hsample rfl rfl (alertData_eq s)
  · refine exec_read_of_ok rfl hframe hsample ?_ (streamData_length s i) (streamData_eq s i)
    simp only [indexArg_of_eq hb]
  · refine exec_of_turnedAway rfl hframe hsample ?_
    simp only [indexArg_of_large hb]
  · refine exec_read_of_ok rfl hframe hsample ?_ (slotData_length s i) (slotData_eq s i)
    simp only [indexArg_of_eq hb]
  · refine exec_of_turnedAway rfl hframe hsample ?_
    simp only [indexArg_of_large hb]
  · have hone : b ≠ 0xFF := fun hall => by rw [hall] at hb; exact absurd i.isLt (hb ▸ by decide)
    refine exec_read_of_ok rfl hframe hsample ?_ (counterData_length _ i) (counterData_eq _ i)
    simp only [if_neg hone, indexArg_of_eq hb]
  · exact exec_read_of_ok rfl hframe hsample (if_pos rfl) (countersData_length _) (countersData_eq _)
  · refine exec_of_turnedAway rfl hframe hsample ?_
    simp only [if_neg hall, indexArg_of_large hb]
  · exact exec_read_of_ok rfl hframe hsample rfl (histogramConfigData_length _) (histogramConfigData_eq _)
  · exact exec_read_of_ok rfl hframe hsample rfl (by simp) (accountedBinsData_eq _ _)
  · exact exec_read_of_ok rfl hframe hsample rfl (worstData_length _) (worstData_eq _)
  · refine exec_of_turnedAway rfl hframe hsample ?_
    split
    · omega
    · omega
    · omega
    · rfl
  · obtain ⟨rest, hrecords⟩ := List.head?_eq_some_iff.mp hr
    refine exec_read_of_ok rfl hframe hsample ?_ (captureData_length r p) (captureData_eq r p)
    simp only [indexArg_of_eq hb, hrecords]
  · refine exec_of_turnedAway rfl hframe hsample ?_
    simp only [indexArg_of_eq (i := (⟨b.toNat, by omega⟩ : Fin 4)) rfl, hempty]
  · refine exec_of_turnedAway rfl hframe hsample ?_
    simp only [indexArg_of_large hb]

end Sys2Proof
end
